-- ==== Sys2Proof/Word.lean ====
section
/-! DEFINITION. The bit vectors of the controller, under the names the spec uses for them (R15 to R17, R19). -/

namespace Sys2Proof

/-- The bus address `adr`: 32 bits with no unit (R16). -/
abbrev BusAddr := BitVec 32

/-- The 32-bit bus word, `dat_w` and `dat_r` (R15). -/
abbrev BusWord := BitVec 32

/-- The byte-select mask `sel`, one bit for each byte lane (R15). -/
abbrev SelMask := BitVec 4

/-- A 48-bit Command-Address word, and the shift register that carries it (R29, R64). -/
abbrev CaWord := BitVec 48

/-- The DQ lines. An instance with `W = 8` has the low eight only; the upper byte is then 0 (log 5). -/
abbrev DqLines := BitVec 16

/-- The RWDS lines, `NR = W/8` of them (R17). An instance with `W = 8` has line 0 only; the upper bit
is then 0 (log 5). -/
abbrev RwdsLines := BitVec 2

/-- The Phase Generator's counter (R26). -/
abbrev Phase := BitVec 2

/-- The BUSREQ word: three selector bits and 68 operand bits (R62, R63). -/
abbrev BusReqWord := BitVec 71

end Sys2Proof
end

