-- ==== Sys2Proof/Config.lean ====
section
/-! DEFINITION. What is fixed when an instance is built (R10 to R14, R39), the inputs the environment
supplies in one cycle (R40), and the free draw that stands for the environment. -/

namespace Sys2Proof

/-- The device data width `W`: 8 or 16, fixed for the instance (R10). -/
inductive Width where
  | w8
  | w16
deriving DecidableEq, Repr

/-- The number of chip-select lines `NCS`: 1 or 2 (R12). -/
inductive CsLines where
  | one
  | two
deriving DecidableEq, Repr

/-- The parameters of a built instance. Every value of this type passes the checks of R133 to R135, so
that no instance with an illegal parameter can be written down (R136); `Machine.construct` makes one from
unchecked parameters. -/
structure Config where
  /-- `W` (R10). -/
  width : Width
  /-- `L - 1`: the latency `L` is any number from 1 up (R11, R134). `Machine.latency` is `L`. -/
  latencyPred : Nat
  /-- `NCS` (R12). -/
  ncs : CsLines
  /-- `HAS_RST_N` (R13). -/
  hasRstN : Bool
  /-- `CLK_DIFF` (R14). -/
  clkDiff : Bool
deriving DecidableEq, Repr

/-- The parameters as they are asked for, before any check. The latency is a rational because R134
also refuses a latency that is not an integer. -/
structure Params where
  w : Int
  l : Rat
  ncs : Int
  hasRstN : Bool
  clkDiff : Bool
deriving DecidableEq, Repr

/-- The configuration errors (60_exceptions.md §1), each with the value it records. -/
inductive ConfigError where
  /-- Code 1, `CFG_BAD_WIDTH` (R133). -/
  | badWidth (w : Int)
  /-- Code 2, `CFG_BAD_LATENCY` (R134). -/
  | badLatency (l : Rat)
  /-- Code 3, `CFG_BAD_NCS` (R135). -/
  | badNcs (n : Int)
deriving DecidableEq, Repr

/-- The request lines of the bus side (R40, R63). -/
structure Request where
  cyc : Bool
  stb : Bool
  we : Bool
  adr : BusAddr
  datW : BusWord
  sel : SelMask
deriving DecidableEq, Repr, Inhabited

/-- Everything the environment drives in one cycle (R40). -/
structure Inputs where
  /-- The system reset. -/
  rst : Bool
  /-- The bus master's request. -/
  req : Request
  /-- The DQ lines as the device drives them; with `W = 8` the low byte counts. -/
  dqIn : DqLines
  /-- The RWDS lines as the device drives them; never read (R92). -/
  rwdsIn : RwdsLines
deriving DecidableEq, Repr, Inhabited

/-- FREE VALUE (log 3). The inputs of the `n`-th cycle when nobody has said what they are: nothing is
known of them (R131: "The only values the model does not fix are the inputs"; D18). -/
opaque Config.freeInputs : Nat → Inputs

end Sys2Proof
end

