-- ==== Sys2Proof/Syntax.lean ====
section
/-! DEFINITION. The rows of spec/opcode_table.json, one constructor each. The table has three formats,
and in one cycle one row of each may be active (log 10): the request on the bus (BUSREQ), the action of
the sequencer's timeline (TIMELINE), and at offset 3 the command-address word (CA48). -/

namespace Sys2Proof

inductive Instr where
  /-- IDLE_NOCYC: `cyc = 0` (R119). The other request lines are free, and a running timeline still reads
  them (R125, log 12). -/
  | idleNoCyc (stb we : Bool) (adr : BusAddr) (datW : BusWord) (sel : SelMask)
  /-- IDLE_NOSTB: `cyc = 1`, `stb = 0` (R119). -/
  | idleNoStb (we : Bool) (adr : BusAddr) (datW : BusWord) (sel : SelMask)
  /-- READ: `cyc = stb = 1`, `we = 0` (R120). `datW` and `sel` stand on the lines and are ignored. -/
  | read (adr : BusAddr) (datW : BusWord) (sel : SelMask)
  /-- WRITE: `cyc = stb = we = 1` (R121). -/
  | write (adr : BusAddr) (datW : BusWord) (sel : SelMask)
  /-- CA_READ_W8 (R65): `a = adr[30:2]`, `b = adr[1:0]`. -/
  | caReadW8 (a : BitVec 29) (b : BitVec 2)
  /-- CA_WRITE_W8 (R65). -/
  | caWriteW8 (a : BitVec 29) (b : BitVec 2)
  /-- CA_READ_W16 (R66): `a = adr[31:3]`, `b = adr[2:0]`. -/
  | caReadW16 (a : BitVec 29) (b : BitVec 3)
  /-- CA_WRITE_W16 (R66). -/
  | caWriteW16 (a : BitVec 29) (b : BitVec 3)
  /-- TL_TRIGGER (R99). -/
  | tlTrigger
  /-- TL_GAP: an offset with no action (R103). -/
  | tlGap
  /-- TL_CA, offset 3 (R104). -/
  | tlCa
  /-- TL_LATENCY, offset 15 (R105). -/
  | tlLatency
  /-- TL_DATA0_W8, offset `S` (R106). -/
  | tlData0W8
  /-- TL_MASK_W8, offset `S + 2k` for sub-step `k = 1, 2, 3` (R107). -/
  | tlMaskW8 (k : Fin 4)
  /-- TL_DATA0_W16, offset `S` (R108). -/
  | tlData0W16
  /-- TL_MASK_W16, offset `S + 2` (R109). -/
  | tlMaskW16
  /-- TL_TEARDOWN, offset `S + D` (R110). -/
  | tlTeardown
  /-- TL_ACK, offset `S + D + 2` (R111). -/
  | tlAck
  /-- TL_ACKCLR, offset `S + D + 3` (R112). -/
  | tlAckClr
  /-- TL_END, offset `E` (R113). -/
  | tlEnd
deriving DecidableEq, Repr

/-- The formats of the opcode table (R62 names BUSREQ and CA48; TIMELINE is the table's). -/
inductive Format where
  | busReq
  | ca48
  | timeline
deriving DecidableEq, Repr

/-- What selects a timeline row: the counter, and at `c = 0` the pending request and the phase (R99,
R100). -/
structure TimelineSelector where
  c : Nat
  pending : Bool
  phase : Phase
deriving DecidableEq, Repr

/-- An encoded row: a BUSREQ word, a CA48 word, or the selector of a timeline row (the table's
"encoding" of a TIMELINE row is a condition on the counter, not a word). -/
inductive Code where
  | busReq (w : BusReqWord)
  | ca48 (w : CaWord)
  | timeline (t : TimelineSelector)
deriving DecidableEq, Repr

/-- Why a code is no row of the table (R71; R99 for the last). -/
inductive DecodeError where
  /-- CA bit 46 is 1: register space, never addressed. -/
  | caRegisterSpace
  /-- CA bit 45 is 0: a wrapped burst, never sent. -/
  | caWrappedBurst
  /-- CA bits 15:3 are not all 0. -/
  | caReservedBits
  /-- CA bit 0 is 1 on an instance with `W = 8`. -/
  | caBit0W8
  /-- The sequencer is idle and nothing triggers it: no timeline row is active. -/
  | timelineIdle
deriving DecidableEq, Repr

/-- The format the opcode table lists a row under. -/
def Instr.format : Instr → Format
  | .idleNoCyc .. | .idleNoStb .. | .read .. | .write .. => .busReq
  | .caReadW8 .. | .caWriteW8 .. | .caReadW16 .. | .caWriteW16 .. => .ca48
  | .tlTrigger | .tlGap | .tlCa | .tlLatency | .tlData0W8 | .tlMaskW8 _ | .tlData0W16 | .tlMaskW16
  | .tlTeardown | .tlAck | .tlAckClr | .tlEnd => .timeline

/-- The format of a code. -/
def Code.format : Code → Format
  | .busReq _ => .busReq
  | .ca48 _ => .ca48
  | .timeline _ => .timeline

end Sys2Proof
end

