-- ==== Sys2Proof/WellFormed.lean ====
section
/-! DEFINITION. Which terms of `Instr` are rows of the table, and which belong to an instance of a given
width. Every operand but one is a bit vector of its field's exact width, so only TL_MASK_W8's sub-step
number needs a check of its own. -/

namespace Sys2Proof

/-- The widths a row belongs to: R65, R106, R107 are for `W = 8`; R66, R108, R109 for `W = 16`; every
other row is for both. -/
def Instr.fitsWidth : Width → Instr → Bool
  | .w8, .caReadW16 .. | .w8, .caWriteW16 .. | .w8, .tlData0W16 | .w8, .tlMaskW16 => false
  | .w16, .caReadW8 .. | .w16, .caWriteW8 .. | .w16, .tlData0W8 | .w16, .tlMaskW8 _ => false
  | _, _ => true

/-- TL_MASK_W8 is sub-step 1, 2 or 3; sub-step 0 is TL_DATA0_W8 (R106, R107). -/
def Instr.substepOk : Instr → Bool
  | .tlMaskW8 k => k != 0
  | _ => true

/-- A row of the table that an instance of width `w` has. -/
def Instr.wellFormed (w : Width) (i : Instr) : Bool :=
  i.fitsWidth w && i.substepOk

end Sys2Proof
end

