-- ==== Sys2Proof/Machine/Timeline.lean ====
section
/-! DEFINITION. The timeline of an instance (R18, R97): its derived constants, its table of delays, the
offsets they sum to, and the abstract states (R42). -/

namespace Sys2Proof.Machine

/-- `W` as a number (R10). -/
def widthBits : Width → Nat
  | .w8 => 8
  | .w16 => 16

/-- `NR = W/8`, the number of RWDS lines (R17). -/
def rwdsLineCount (w : Width) : Nat := widthBits w / 8

/-- `D`, the length of the data phase in cycles (R18). -/
def dataLen : Width → Nat
  | .w8 => 8
  | .w16 => 4

/-- `L` (R11): at least 1 on every instance (R134). -/
def latency (cfg : Config) : Nat := cfg.latencyPred + 1

/-- The length of the latency phase, `8*L - 4` cycles (R105). -/
def latencyLen (cfg : Config) : Nat := 8 * latency cfg - 4

/-- `S = 11 + 8*L`, the offset of the first data-phase action (R18). -/
def dataStart (cfg : Config) : Nat := 11 + 8 * latency cfg

/-- `S + D`, the offset of the teardown action (R110). -/
def teardownAt (cfg : Config) : Nat := dataStart cfg + dataLen cfg.width

/-- `E = 15 + 8*L + D`, the offset of the end of the timeline (R18). -/
def timelineEnd (cfg : Config) : Nat := 15 + 8 * latency cfg + dataLen cfg.width

/-- `P = E + 1`, the least spacing of two triggers (R18). -/
def period (cfg : Config) : Nat := timelineEnd cfg + 1

/-- One entry of the timeline: its row of the opcode table and the delay to the next entry (R97). -/
structure TimelineEntry where
  row : Instr
  delay : Nat
deriving DecidableEq, Repr

/-- The entries of R97 in order. The first, at offset 0, is the idle gap that begins in the trigger
cycle; its row is TL_TRIGGER. -/
def timelineEntries (cfg : Config) : List TimelineEntry :=
  [⟨.tlTrigger, 3⟩, ⟨.tlCa, 12⟩, ⟨.tlLatency, latencyLen cfg⟩] ++
  (match cfg.width with
    | .w8 => [⟨.tlData0W8, 2⟩, ⟨.tlMaskW8 1, 2⟩, ⟨.tlMaskW8 2, 2⟩, ⟨.tlMaskW8 3, 2⟩]
    | .w16 => [⟨.tlData0W16, 2⟩, ⟨.tlMaskW16, 2⟩]) ++
  [⟨.tlTeardown, 2⟩, ⟨.tlAck, 1⟩, ⟨.tlAckClr, 1⟩, ⟨.tlEnd, 0⟩]

/-- "All offsets are computed once (sum of preceding deltas)" (R97). -/
def offsetsFrom : Nat → List TimelineEntry → List (Nat × Instr)
  | _, [] => []
  | at_, e :: es => (at_, e.row) :: offsetsFrom (at_ + e.delay) es

/-- The timeline as offsets from the trigger cycle (R97). -/
def timelineOffsets (cfg : Config) : List (Nat × Instr) :=
  offsetsFrom 0 (timelineEntries cfg)

/-- The abstract states of R42, with the GAP the spec adds. -/
inductive Segment where
  | idle
  | gap
  | ca
  | latency
  | data
  | teardown
  | ack
deriving DecidableEq, Repr

/-- The abstract state as a function of the counter (R42). -/
def segmentOf (cfg : Config) (c : Nat) : Segment :=
  if c = 0 then .idle
  else if c ≤ 3 then .gap
  else if c ≤ 15 then .ca
  else if c ≤ dataStart cfg then .latency
  else if c ≤ teardownAt cfg then .data
  else if c ≤ teardownAt cfg + 2 then .teardown
  else .ack

end Sys2Proof.Machine
end

