-- ==== Sys2Proof/Decode.lean ====
section
/-! DEFINITION. Decoding and encoding of the three formats (30_encoding.md, 41_ca_encoder.md,
43_sequencer.md R97 to R100, spec/opcode_table.json). Every decoder is total; what is no row of the
table is rejected by name. -/

namespace Sys2Proof

/-! ### BUSREQ (R63, R69) -/

/-- The BUSREQ word of a request: `req = {we, stb, cyc}` in bits 2:0 as R63 packs them; above them
`adr`, `dat_w`, `sel` from the least significant end (DESIGN CHOICE, log 7: R63 gives the operand bits
no places). -/
def requestWord (r : Request) : BusReqWord :=
  r.sel ++ r.datW ++ r.adr ++ BitVec.ofBool r.we ++ BitVec.ofBool r.stb ++ BitVec.ofBool r.cyc

/-- The request a BUSREQ word stands for. -/
def wordRequest (w : BusReqWord) : Request :=
  { cyc := w.getLsbD 0
    stb := w.getLsbD 1
    we := w.getLsbD 2
    adr := w.extractLsb' 3 32
    datW := w.extractLsb' 35 32
    sel := w.extractLsb' 67 4 }

/-- The row a request selects (R69; the masks and matches of the table's four BUSREQ rows). -/
def requestInstr (r : Request) : Instr :=
  match r.cyc, r.stb, r.we with
  | false, stb, we => .idleNoCyc stb we r.adr r.datW r.sel
  | true, false, we => .idleNoStb we r.adr r.datW r.sel
  | true, true, false => .read r.adr r.datW r.sel
  | true, true, true => .write r.adr r.datW r.sel

/-- All eight selector values are defined (R69), so every BUSREQ word decodes. -/
def decodeBusReq (w : BusReqWord) : Instr := requestInstr (wordRequest w)

/-! ### CA48 (R64 to R66, R82 to R90) -/

/-- The row that the Command-Address Encoder forms from a request: `W` and `we` select it; its fields
are copied from `adr` (R82, R86 to R89). -/
def requestCaInstr (w : Width) (adr : BusAddr) (we : Bool) : Instr :=
  match w, we with
  | .w8, false => .caReadW8 (adr.extractLsb' 2 29) (adr.extractLsb' 0 2)
  | .w8, true => .caWriteW8 (adr.extractLsb' 2 29) (adr.extractLsb' 0 2)
  | .w16, false => .caReadW16 (adr.extractLsb' 3 29) (adr.extractLsb' 0 3)
  | .w16, true => .caWriteW16 (adr.extractLsb' 3 29) (adr.extractLsb' 0 3)

/-- The bits of a CA word for `W = 8` (R65): R/W, space, burst, upper address, reserved, lower column,
and bit 0, which carries nothing (R87). -/
def caBitsW8 (isRead : Bool) (a : BitVec 29) (b : BitVec 2) : CaWord :=
  BitVec.ofBool isRead ++ 0#1 ++ 1#1 ++ a ++ 0#13 ++ b ++ 0#1

/-- The bits of a CA word for `W = 16` (R66). -/
def caBitsW16 (isRead : Bool) (a : BitVec 29) (b : BitVec 3) : CaWord :=
  BitVec.ofBool isRead ++ 0#1 ++ 1#1 ++ a ++ 0#13 ++ b

/-- The row a CA word is on an instance of width `w`, or why it is none (R64 to R66, R71). The widths
share their patterns, so the width is an argument. -/
def decodeCa (w : Width) (x : CaWord) : Except DecodeError Instr :=
  if x.getLsbD 46 then .error .caRegisterSpace
  else if !x.getLsbD 45 then .error .caWrappedBurst
  else if x.extractLsb' 3 13 ≠ 0#13 then .error .caReservedBits
  else match w with
    | .w8 =>
      if x.getLsbD 0 then .error .caBit0W8
      else if x.getLsbD 47 then .ok (.caReadW8 (x.extractLsb' 16 29) (x.extractLsb' 1 2))
      else .ok (.caWriteW8 (x.extractLsb' 16 29) (x.extractLsb' 1 2))
    | .w16 =>
      if x.getLsbD 47 then .ok (.caReadW16 (x.extractLsb' 16 29) (x.extractLsb' 0 3))
      else .ok (.caWriteW16 (x.extractLsb' 16 29) (x.extractLsb' 0 3))

/-- A bus address and direction whose CA word is `x`: the inverse of R86 to R89, with `adr[31] = 0` for
`W = 8`, which no CA word carries (R86). -/
def caWordRequest (w : Width) (x : CaWord) : Request :=
  { cyc := true
    stb := true
    we := !x.getLsbD 47
    adr := match w with
      | .w8 => 0#1 ++ x.extractLsb' 16 29 ++ x.extractLsb' 1 2
      | .w16 => x.extractLsb' 16 29 ++ x.extractLsb' 0 3
    datW := 0
    sel := 0 }

/-! ### TIMELINE (R97, R99, R100) -/

/-- The row of a nonzero counter value (the conditions of the table's TIMELINE rows). A value that no
entry of the timeline has is a gap: "every other offset with no action is also a no-op" (R103). -/
def timelineRow (cfg : Config) (k : Nat) : Instr :=
  let s := Machine.dataStart cfg
  let t := Machine.teardownAt cfg
  if k = 3 then .tlCa
  else if k = 15 then .tlLatency
  else if k = t then .tlTeardown
  else if k = t + 2 then .tlAck
  else if k = t + 3 then .tlAckClr
  else if k = Machine.timelineEnd cfg then .tlEnd
  else match cfg.width with
    | .w8 =>
      if k = s then .tlData0W8
      else if k = s + 2 then .tlMaskW8 1
      else if k = s + 4 then .tlMaskW8 2
      else if k = s + 6 then .tlMaskW8 3
      else .tlGap
    | .w16 =>
      if k = s then .tlData0W16
      else if k = s + 2 then .tlMaskW16
      else .tlGap

/-- The timeline row active in a cycle: TL_TRIGGER when the idle sequencer triggers (R99), the row of
the counter when it runs (R100), none when it stays idle. -/
def decodeTimeline (cfg : Config) (t : TimelineSelector) : Except DecodeError Instr :=
  if t.c = 0 then
    if t.pending && t.phase == 1 then .ok .tlTrigger else .error .timelineIdle
  else .ok (timelineRow cfg t.c)

/-! ### The whole decoder, and the encoder -/

/-- The row of the table a code stands for on an instance, or why it is none. -/
def decode (cfg : Config) : Code → Except DecodeError Instr
  | .busReq w => .ok (decodeBusReq w)
  | .ca48 x => decodeCa cfg.width x
  | .timeline t => decodeTimeline cfg t

/-- The selector of a running timeline at offset `k`: the phase is `(k + 1) mod 4`, since the trigger
cycle has phase 1 (R97). -/
def selectorAt (k : Nat) : TimelineSelector :=
  { c := k, pending := false, phase := BitVec.ofNat 2 (k + 1) }

/-- The code of a row. A row of several offsets (TL_GAP) is given its first, offset 1. -/
def encode (cfg : Config) : Instr → Code
  | .idleNoCyc stb we adr datW sel => .busReq (requestWord ⟨false, stb, we, adr, datW, sel⟩)
  | .idleNoStb we adr datW sel => .busReq (requestWord ⟨true, false, we, adr, datW, sel⟩)
  | .read adr datW sel => .busReq (requestWord ⟨true, true, false, adr, datW, sel⟩)
  | .write adr datW sel => .busReq (requestWord ⟨true, true, true, adr, datW, sel⟩)
  | .caReadW8 a b => .ca48 (caBitsW8 true a b)
  | .caWriteW8 a b => .ca48 (caBitsW8 false a b)
  | .caReadW16 a b => .ca48 (caBitsW16 true a b)
  | .caWriteW16 a b => .ca48 (caBitsW16 false a b)
  | .tlTrigger => .timeline { c := 0, pending := true, phase := 1 }
  | .tlGap => .timeline (selectorAt 1)
  | .tlCa => .timeline (selectorAt 3)
  | .tlLatency => .timeline (selectorAt 15)
  | .tlData0W8 => .timeline (selectorAt (Machine.dataStart cfg))
  | .tlMaskW8 k => .timeline (selectorAt (Machine.dataStart cfg + 2 * k.val))
  | .tlData0W16 => .timeline (selectorAt (Machine.dataStart cfg))
  | .tlMaskW16 => .timeline (selectorAt (Machine.dataStart cfg + 2))
  | .tlTeardown => .timeline (selectorAt (Machine.teardownAt cfg))
  | .tlAck => .timeline (selectorAt (Machine.teardownAt cfg + 2))
  | .tlAckClr => .timeline (selectorAt (Machine.teardownAt cfg + 3))
  | .tlEnd => .timeline (selectorAt (Machine.timelineEnd cfg))

/-- The width whose CA rows `decodeTableWord` reads: `W = 16` for a word with bit 0 set, which no row of
`W = 8` has (R71), else `W = 8`, that of `State.reset` (log 8). -/
def tableWidth (x : CaWord) : Width := if x.getLsbD 0 then .w16 else .w8

/-- The row read from `w`, numbered as spec/opcode_table.json numbers the bits. A word of 48 bits is a
CA48 word; any other length is a BUSREQ word whose bits above `nbits` are 0 (log 8). -/
def decodeTableWord (nbits w : Nat) : Option Instr :=
  if nbits = 48 then
    match decodeCa (tableWidth (BitVec.ofNat 48 w)) (BitVec.ofNat 48 w) with
    | .ok i => some i
    | .error _ => none
  else some (decodeBusReq (BitVec.ofNat 71 w))

end Sys2Proof
end

