-- ==== Sys2Proof/Machine/State.lean ====
section
/-! DEFINITION. The state of one controller instance (R25), the reasons a step can stop, and the state
after reset (R149). -/

namespace Sys2Proof.Machine

/-- The machine's faults. There are none: "No behaviour of the controller is treated as fault at run time
or stuck" (93_implementation_defined.md; R137). -/
inductive Fault where
deriving DecidableEq, Repr

/-- The machine's refusals. -/
inductive Refusal where
  /-- Raised by an arm of `exec` for an instruction without a meaning. No arm raises it. Safe. -/
  | notModelled (mnemonic : String)
  /-- Raised by `construct` alone, when the parameters fail a check of R133 to R135: "no instance exists,
  so no cycle runs". No step raises it. Safe. -/
  | config (e : ConfigError)
deriving DecidableEq, Repr

/-- The registers of R25, and three fields of the model's own: the instance's parameters, the inputs of
the coming cycles, and the count of cycles taken. -/
structure State where
  /-- MODEL'S OWN (log 1). The parameters (R39); no step changes them. -/
  cfg : Config
  /-- `phase` (R26). -/
  phase : Phase
  /-- `clk` (R27). -/
  clk : Bool
  /-- `dqi`, `W` bits (R28); the upper byte is 0 when `W = 8` (log 5). -/
  dqi : DqLines
  /-- `sr` (R29). -/
  sr : CaWord
  /-- `ca_active` (R30). -/
  caActive : Bool
  /-- `cs` (R31). -/
  cs : Bool
  /-- `dq_oe` (R32). -/
  dqOe : Bool
  /-- `rwds_oe` (R33). -/
  rwdsOe : Bool
  /-- `rwds_o`, `NR` bits (R34); the upper bit is 0 when `W = 8` (log 5). -/
  rwdsO : RwdsLines
  /-- `ack` (R35). -/
  ack : Bool
  /-- `c` (R36), a natural number (D29). -/
  c : Nat
  /-- MODEL'S OWN (log 3). The inputs of the coming cycles, this cycle's first. -/
  stim : List Inputs
  /-- MODEL'S OWN (log 4). The cycles taken so far: which free draw is next once `stim` is empty. -/
  cycle : Nat
deriving DecidableEq, Repr

/-- The reset state of an instance: every register 0 (R25, R149, R151). -/
def State.resetOf (cfg : Config) : State :=
  { cfg := cfg, phase := 0, clk := false, dqi := 0, sr := 0, caActive := false, cs := false, dqOe := false,
    rwdsOe := false, rwdsO := 0, ack := false, c := 0, stim := [], cycle := 0 }

/-- DESIGN CHOICE (log 1). The instance of `State.reset`: the spec's default `L = 6`, and a choice for
each parameter that has no default (R39). -/
def defaultConfig : Config :=
  { width := .w8, latencyPred := 5, ncs := .one, hasRstN := true, clkDiff := false }

/-- The machine right after reset (R151). -/
def State.reset : State := State.resetOf defaultConfig

end Sys2Proof.Machine
end

