-- ==== Sys2Proof/Machine/Operands.lean ====
section
/-! DEFINITION. The operands of the rules: the inputs of a cycle (R40), the CA word (R90), the write
payload (R106), the masks (R106 to R109), and the shifted register (R93). -/

namespace Sys2Proof.Machine

/-- The inputs of the cycle `k` cycles from now: what the environment has been said to supply, else a
free draw (log 3). -/
def State.inputAt (s : State) (k : Nat) : Inputs :=
  match s.stim[k]? with
  | some i => i
  | none => Config.freeInputs (s.cycle + k)

/-- The inputs of the current cycle (R40). -/
def State.inp (s : State) : Inputs := s.inputAt 0

/-- The CA word of a request (R90). -/
def caWord (w : Width) (adr : BusAddr) (we : Bool) : CaWord :=
  match w with
  | .w8 => BitVec.ofBool (!we) ++ 0#1 ++ 1#1 ++ adr.extractLsb' 2 29 ++ 0#13 ++ adr.extractLsb' 0 2 ++ 0#1
  | .w16 => BitVec.ofBool (!we) ++ 0#1 ++ 1#1 ++ adr.extractLsb' 3 29 ++ 0#13 ++ adr.extractLsb' 0 3

/-- The payload as it is loaded: `{ dat_w, 16'b0 }` (R106, R108; 90_conflicts.md C4). -/
def payloadWord (datW : BusWord) : CaWord := datW ++ 0#16

/-- The mask of sub-step `k` for `W = 8`: `~sel[k]` on line 0 (R106, R107). -/
def maskW8 (sel : SelMask) (k : Fin 4) : RwdsLines := 0#1 ++ BitVec.ofBool (!sel.getLsbD k.val)

/-- The mask of sub-step `k` for `W = 16`: `{ ~sel[2k], ~sel[2k+1] }` (R108, R109). -/
def maskW16 (sel : SelMask) (k : Fin 2) : RwdsLines :=
  BitVec.ofBool (!sel.getLsbD (2 * k.val)) ++ BitVec.ofBool (!sel.getLsbD (2 * k.val + 1))

/-- The DQ lines an instance has, of those the environment drives: `W` of them (R40, R91). -/
def sampleDq (w : Width) (dq : DqLines) : DqLines :=
  match w with
  | .w8 => 0#8 ++ dq.extractLsb' 0 8
  | .w16 => dq

/-- A shift by 8 bits: `{ sr[39:0], dqi[7:0] }` (R93). -/
def shift8 (sr : CaWord) (dqi : DqLines) : CaWord := sr.extractLsb' 0 40 ++ dqi.extractLsb' 0 8

/-- A shift by 16 bits: `{ sr[31:0], dqi[15:0] }` (R93). -/
def shift16 (sr : CaWord) (dqi : DqLines) : CaWord := sr.extractLsb' 0 32 ++ dqi

/-- The shift of a cycle: 8 bits in CA mode, `W` bits otherwise (R93). -/
def shiftedSr (s : State) : CaWord :=
  if s.caActive then shift8 s.sr s.dqi
  else match s.cfg.width with
    | .w8 => shift8 s.sr s.dqi
    | .w16 => shift16 s.sr s.dqi

end Sys2Proof.Machine
end

