-- ==== Sys2Proof/Machine/Flags.lean ====
section
/-! DEFINITION. The one-bit conditions of a cycle: `pending` (R117), the trigger (R99), the even phases
(R93), and the next value of the device clock (R76). The status flags `ca_active` and `ack` (R37) are
written by the actions in Machine/Ops.lean. -/

namespace Sys2Proof.Machine

/-- `pending = cyc & stb` (R117). -/
def pending (r : Request) : Bool := r.cyc && r.stb

/-- `trig = (c == 0) & pending & (phase == 1)` (R99). -/
def triggers (s : State) (inp : Inputs) : Bool := s.c == 0 && pending inp.req && s.phase == 1

/-- The phases in which the Data Path shifts (R93). -/
def evenPhase (p : Phase) : Bool := p == 0 || p == 2

/-- The next value of the device clock register (R76). -/
def nextClk (s : State) : Bool :=
  if s.phase = 1 then s.cs
  else if s.phase = 3 then false
  else s.clk

/-- What selects the timeline row of the current cycle (R99, R100). -/
def timelineSelector (s : State) : TimelineSelector :=
  { c := s.c, pending := pending s.inp.req, phase := s.phase }

end Sys2Proof.Machine
end

