-- ==== Sys2Proof/Machine/Ops.lean ====
section
/-! DEFINITION. The shared operations of a cycle: the system reset (R149), the free-running components
(R75, R76, R91, R93), the action sets (R104 to R112), the counter (R100), and the cycle that puts them
together (R128). The block takes no exception and returns from none (R139); the system reset is the only
event that interrupts a timeline, and it saves nothing. -/

namespace Sys2Proof.Machine

/-- The environment moves on to the next cycle's inputs (log 3). -/
def nextInputs (s : State) : State := { s with stim := s.stim.tail, cycle := s.cycle + 1 }

/-- A cycle with `rst = 1`: every register takes its reset value, whatever it held (R149, R140, R161).
The parameters are construction-time constants and stay. -/
def systemReset (s : State) : State :=
  { State.resetOf s.cfg with stim := s.stim.tail, cycle := s.cycle + 1 }

/-- The Phase Generator and the Data Path in one cycle, and the passing of the cycle itself: what happens
whether or not the sequencer acts (R75, R76, R91, R93). -/
def freeRun (s : State) (inp : Inputs) : State :=
  { nextInputs s with
    phase := s.phase + 1
    clk := nextClk s
    dqi := sampleDq s.cfg.width inp.dqIn
    sr := if evenPhase s.phase then shiftedSr s else s.sr }

/-! The action sets. Each takes the state the free-running components leave and writes over it, so that a
load of `sr` wins over the shift of the same cycle (R129). -/

/-- The CA action with the CA word `x` (R104). -/
def actCa (x : CaWord) (nx : State) : State :=
  { nx with cs := true, dqOe := true, sr := x, caActive := true }

/-- The latency action (R105). -/
def actLatency (nx : State) : State := { nx with dqOe := false, caActive := false }

/-- Data sub-step 0 with the mask `m` of that sub-step (R106, R108). -/
def actData0 (m : RwdsLines) (r : Request) (nx : State) : State :=
  if r.we then { nx with dqOe := true, rwdsOe := true, sr := payloadWord r.datW, rwdsO := m }
  else { nx with dqOe := false, rwdsOe := false }

/-- A later data sub-step with the mask `m` (R107, R109). -/
def actMask (m : RwdsLines) (r : Request) (nx : State) : State :=
  if r.we then { nx with rwdsO := m } else nx

/-- The teardown action (R110). -/
def actTeardown (nx : State) : State := { nx with cs := false, rwdsOe := false, dqOe := false }

/-- The acknowledge action (R111). -/
def actAck (nx : State) : State := { nx with ack := true }

/-- The acknowledge-clear action (R112). -/
def actAckClr (nx : State) : State := { nx with ack := false }

/-- `A(k)` on an instance, as R128 lists it. -/
def actionAt (cfg : Config) (inp : Inputs) (k : Nat) (nx : State) : State :=
  let s := dataStart cfg
  let r := inp.req
  if k = 3 then actCa (caWord cfg.width r.adr r.we) nx
  else if k = 15 then actLatency nx
  else if k = s then
    match cfg.width with
    | .w8 => actData0 (maskW8 r.sel 0) r nx
    | .w16 => actData0 (maskW16 r.sel 0) r nx
  else if cfg.width = .w8 ∧ k = s + 2 then actMask (maskW8 r.sel 1) r nx
  else if cfg.width = .w8 ∧ k = s + 4 then actMask (maskW8 r.sel 2) r nx
  else if cfg.width = .w8 ∧ k = s + 6 then actMask (maskW8 r.sel 3) r nx
  else if cfg.width = .w16 ∧ k = s + 2 then actMask (maskW16 r.sel 1) r nx
  else if k = s + dataLen cfg.width then actTeardown nx
  else if k = s + dataLen cfg.width + 2 then actAck nx
  else if k = s + dataLen cfg.width + 3 then actAckClr nx
  else nx

/-- The counter of a running timeline: `(c == E) ? 0 : c + 1` (R100). -/
def nextCount (cfg : Config) (c : Nat) : Nat := if c = timelineEnd cfg then 0 else c + 1

/-- A cycle in which the running sequencer performs the action `act` (R100). -/
def runningCycle (act : State → State) (s : State) (inp : Inputs) : State :=
  { act (freeRun s inp) with c := nextCount s.cfg s.c }

/-- One cycle of the whole controller with `rst = 0` and the given inputs: `tick` of R128. -/
def tick (s : State) (inp : Inputs) : State :=
  if s.c = 0 then { freeRun s inp with c := if triggers s inp then 1 else 0 }
  else runningCycle (actionAt s.cfg inp s.c) s inp

/-- One cycle in which the request on the bus is `r` and the device lines are this cycle's (R119 to
R121). `rst` is 0: a cycle with `rst = 1` performs no operation (R149, log 18). -/
def busCycle (r : Request) (s : State) : State :=
  tick s { s.inp with rst := false, req := r }

/-- One cycle in which the timeline action `act` of the current request is performed (R100). -/
def timelineCycle (act : Request → State → State) (s : State) : State :=
  runningCycle (act s.inp.req) s s.inp

/-- The word that `step` decodes: the request lines of the current cycle (R63, R69). -/
def fetchWord (s : State) : BusReqWord := requestWord s.inp.req

/-- `s` with the request `r` on the bus in the current cycle, `rst` and the device lines 0 (log 9). -/
def presentRequest (s : State) (r : Request) : State :=
  { s with stim := { rst := false, req := r, dqIn := 0, rwdsIn := 0 } :: s.stim.tail }

/-- `s` with the sequencer at offset 3, the phase of that offset, and a request whose CA word is `x` on the
bus, on an instance of the width that `x` is read with: the next step issues `x` (R104, log 8, log 9). -/
def presentCaWord (s : State) (x : CaWord) : State :=
  { presentRequest s (caWordRequest (tableWidth x) x) with
    cfg := { s.cfg with width := tableWidth x }
    c := 3
    phase := 0 }

end Sys2Proof.Machine
end

