-- ==== Sys2Proof/Machine/BusOps.lean ====
section
/-! DEFINITION. The bus operations (44_bus_transactions.md R119 to R121), one cycle of each. A whole
transaction is the run of `E + 1` such cycles (R123). -/

namespace Sys2Proof.Machine

/-- IDLE with `cyc = 0` (R119): nothing triggers; a running timeline continues, and reads the other lines
as they are (R102, R125). -/
def execIdleNoCyc (stb we : Bool) (adr : BusAddr) (datW : BusWord) (sel : SelMask) (s : State) :
    Host.Outcome State Fault Refusal :=
  .next (busCycle { cyc := false, stb := stb, we := we, adr := adr, datW := datW, sel := sel } s)

/-- IDLE with `stb = 0` (R119). -/
def execIdleNoStb (we : Bool) (adr : BusAddr) (datW : BusWord) (sel : SelMask) (s : State) :
    Host.Outcome State Fault Refusal :=
  .next (busCycle { cyc := true, stb := false, we := we, adr := adr, datW := datW, sel := sel } s)

/-- READ (R120): triggers if the sequencer is idle at phase 1, waits at another phase, and supplies `adr`
and `we = 0` to the actions of a running timeline. -/
def execRead (adr : BusAddr) (datW : BusWord) (sel : SelMask) (s : State) :
    Host.Outcome State Fault Refusal :=
  .next (busCycle { cyc := true, stb := true, we := false, adr := adr, datW := datW, sel := sel } s)

/-- WRITE (R121): as READ, with `we = 1`, the payload and the byte selects. -/
def execWrite (adr : BusAddr) (datW : BusWord) (sel : SelMask) (s : State) :
    Host.Outcome State Fault Refusal :=
  .next (busCycle { cyc := true, stb := true, we := true, adr := adr, datW := datW, sel := sel } s)

end Sys2Proof.Machine
end

