-- ==== Sys2Proof/Machine/CaWords.lean ====
section
/-! DEFINITION. The CA48 rows (R65, R66): the cycle that issues the word, which is the CA action with that
word (R81, R104). In a state that does not select the row, or on an instance of the other width, the same
happens (DESIGN CHOICE, log 11). -/

namespace Sys2Proof.Machine

/-- CA_READ_W8: the CA word of a read with `W = 8` goes into `sr` (R65, R104). -/
def execCaReadW8 (a : BitVec 29) (b : BitVec 2) (s : State) : Host.Outcome State Fault Refusal :=
  .next (timelineCycle (fun _ => actCa (caBitsW8 true a b)) s)

/-- CA_WRITE_W8: the CA word of a write with `W = 8` goes into `sr` (R65, R104). -/
def execCaWriteW8 (a : BitVec 29) (b : BitVec 2) (s : State) : Host.Outcome State Fault Refusal :=
  .next (timelineCycle (fun _ => actCa (caBitsW8 false a b)) s)

/-- CA_READ_W16: the CA word of a read with `W = 16` goes into `sr` (R66, R104). -/
def execCaReadW16 (a : BitVec 29) (b : BitVec 3) (s : State) : Host.Outcome State Fault Refusal :=
  .next (timelineCycle (fun _ => actCa (caBitsW16 true a b)) s)

/-- CA_WRITE_W16: the CA word of a write with `W = 16` goes into `sr` (R66, R104). -/
def execCaWriteW16 (a : BitVec 29) (b : BitVec 3) (s : State) : Host.Outcome State Fault Refusal :=
  .next (timelineCycle (fun _ => actCa (caBitsW16 false a b)) s)

end Sys2Proof.Machine
end

