-- ==== Sys2Proof/Machine/TimelineOps.lean ====
section
/-! DEFINITION. The TIMELINE rows (43_sequencer.md R99 to R113): one cycle in which the row's action set is
performed beside the free-running components, with the request fields read live (R125, R130). In a
state that does not select the row the same happens (DESIGN CHOICE, log 11). -/

namespace Sys2Proof.Machine

/-- TL_TRIGGER (R99, R100): the empty action set of offset 0, and `c <- 1`. -/
def execTlTrigger (s : State) : Host.Outcome State Fault Refusal :=
  .next { freeRun s s.inp with c := 1 }

/-- TL_GAP (R103): no register of the sequencer but `c` is written. -/
def execTlGap (s : State) : Host.Outcome State Fault Refusal :=
  .next (timelineCycle (fun _ nx => nx) s)

/-- TL_CA (R104), with the CA word of this cycle's `adr` and `we`. -/
def execTlCa (s : State) : Host.Outcome State Fault Refusal :=
  .next (timelineCycle (fun r => actCa (caWord s.cfg.width r.adr r.we)) s)

/-- TL_LATENCY (R105). -/
def execTlLatency (s : State) : Host.Outcome State Fault Refusal :=
  .next (timelineCycle (fun _ => actLatency) s)

/-- TL_DATA0_W8 (R106). -/
def execTlData0W8 (s : State) : Host.Outcome State Fault Refusal :=
  .next (timelineCycle (fun r => actData0 (maskW8 r.sel 0) r) s)

/-- TL_MASK_W8 (R107), sub-step `k`. -/
def execTlMaskW8 (k : Fin 4) (s : State) : Host.Outcome State Fault Refusal :=
  .next (timelineCycle (fun r => actMask (maskW8 r.sel k) r) s)

/-- TL_DATA0_W16 (R108). -/
def execTlData0W16 (s : State) : Host.Outcome State Fault Refusal :=
  .next (timelineCycle (fun r => actData0 (maskW16 r.sel 0) r) s)

/-- TL_MASK_W16 (R109), sub-step 1. -/
def execTlMaskW16 (s : State) : Host.Outcome State Fault Refusal :=
  .next (timelineCycle (fun r => actMask (maskW16 r.sel 1) r) s)

/-- TL_TEARDOWN (R110). -/
def execTlTeardown (s : State) : Host.Outcome State Fault Refusal :=
  .next (timelineCycle (fun _ => actTeardown) s)

/-- TL_ACK (R111). -/
def execTlAck (s : State) : Host.Outcome State Fault Refusal :=
  .next (timelineCycle (fun _ => actAck) s)

/-- TL_ACKCLR (R112). -/
def execTlAckClr (s : State) : Host.Outcome State Fault Refusal :=
  .next (timelineCycle (fun _ => actAckClr) s)

/-- TL_END (R113): no action; the counter returns to 0 (R100). -/
def execTlEnd (s : State) : Host.Outcome State Fault Refusal :=
  .next { freeRun s s.inp with c := 0 }

end Sys2Proof.Machine
end

