-- ==== Sys2Proof/Machine/Dispatch.lean ====
section
/-! DEFINITION. One arm for each row of spec/opcode_table.json. -/

namespace Sys2Proof.Machine

def exec (i : Instr) (s : State) : Host.Outcome State Fault Refusal :=
  match i with
  | .idleNoCyc stb we adr datW sel => Sys2Proof.Machine.execIdleNoCyc stb we adr datW sel s
  | .idleNoStb we adr datW sel => Sys2Proof.Machine.execIdleNoStb we adr datW sel s
  | .read adr datW sel => Sys2Proof.Machine.execRead adr datW sel s
  | .write adr datW sel => Sys2Proof.Machine.execWrite adr datW sel s
  | .caReadW8 a b => Sys2Proof.Machine.execCaReadW8 a b s
  | .caWriteW8 a b => Sys2Proof.Machine.execCaWriteW8 a b s
  | .caReadW16 a b => Sys2Proof.Machine.execCaReadW16 a b s
  | .caWriteW16 a b => Sys2Proof.Machine.execCaWriteW16 a b s
  | .tlTrigger => Sys2Proof.Machine.execTlTrigger s
  | .tlGap => Sys2Proof.Machine.execTlGap s
  | .tlCa => Sys2Proof.Machine.execTlCa s
  | .tlLatency => Sys2Proof.Machine.execTlLatency s
  | .tlData0W8 => Sys2Proof.Machine.execTlData0W8 s
  | .tlMaskW8 k => Sys2Proof.Machine.execTlMaskW8 k s
  | .tlData0W16 => Sys2Proof.Machine.execTlData0W16 s
  | .tlMaskW16 => Sys2Proof.Machine.execTlMaskW16 s
  | .tlTeardown => Sys2Proof.Machine.execTlTeardown s
  | .tlAck => Sys2Proof.Machine.execTlAck s
  | .tlAckClr => Sys2Proof.Machine.execTlAckClr s
  | .tlEnd => Sys2Proof.Machine.execTlEnd s

end Sys2Proof.Machine
end

