-- ==== Sys2Proof/Machine/Step.lean ====
section
/-! DEFINITION. One step of the controller is one cycle of its input clock (R8, R128), and where the host
places an instruction. -/

namespace Sys2Proof.Machine

/-- One cycle: the system reset if `rst = 1`, which overrides everything (R140); else the operation that
the request lines select (R69). -/
def step (s : State) : Host.Outcome State Fault Refusal :=
  if s.inp.rst then .next (systemReset s)
  else exec (decodeBusReq (fetchWord s)) s

/-- `s` with the instruction `w` where the next step takes it (log 9): a BUSREQ word on the request lines
of the current cycle; a CA48 word as the request whose CA word it is, with the sequencer at offset 3, on an
instance of the width the word is read with. -/
def State.withFetchWord (s : State) (nbits w : Nat) : State :=
  if nbits = 48 then presentCaWord s (BitVec.ofNat 48 w)
  else presentRequest s (wordRequest (BitVec.ofNat 71 w))

end Sys2Proof.Machine
end

