-- ==== Sys2Proof/Machine/Construct.lean ====
section
/-! DEFINITION. Building an instance: the checks of 60_exceptions.md §1 in their order, stopping at the
first that fails (R133 to R136). -/

namespace Sys2Proof.Machine

/-- The code of a configuration error (60_exceptions.md §1, D25). -/
def configErrorCode : ConfigError → Nat
  | .badWidth _ => 1
  | .badLatency _ => 2
  | .badNcs _ => 3

/-- R133: `W` is 8 or 16. -/
def checkWidth (w : Int) : Except ConfigError Width :=
  if w = 8 then .ok .w8 else if w = 16 then .ok .w16 else .error (.badWidth w)

/-- R134: `L` is an integer, at least 1; no upper bound. Answers `L - 1`. -/
def checkLatency (l : Rat) : Except ConfigError Nat :=
  if l.den = 1 ∧ 1 ≤ l.num then .ok (l.num.toNat - 1) else .error (.badLatency l)

/-- R135: `NCS` is 1 or 2. -/
def checkNcs (n : Int) : Except ConfigError CsLines :=
  if n = 1 then .ok .one else if n = 2 then .ok .two else .error (.badNcs n)

/-- The checks in the order given: width, latency, chip-select count. -/
def buildConfig (p : Params) : Except ConfigError Config :=
  match checkWidth p.w with
  | .error e => .error e
  | .ok w =>
    match checkLatency p.l with
    | .error e => .error e
    | .ok l =>
      match checkNcs p.ncs with
      | .error e => .error e
      | .ok n =>
        .ok { width := w, latencyPred := l, ncs := n, hasRstN := p.hasRstN, clkDiff := p.clkDiff }

/-- Construction, then the system reset that R152 asks for: an instance in its reset state, or a
configuration error, after which no instance exists and no cycle runs. -/
def construct (p : Params) : Host.Outcome State Fault Refusal :=
  match buildConfig p with
  | .ok cfg => .next (State.resetOf cfg)
  | .error e => .refused (.config e)

end Sys2Proof.Machine
end

