-- ==== Sys2Proof/Machine/Pins.lean ====
section
/-! DEFINITION. The outputs of a cycle (R41), each a function of the current registers: the clock pins
(R77), the DQ pins (R67, R94), the read result (R95), chip select (R114), RWDS (R68, R115), the device
reset pin (R116) and the acknowledgment (R118). -/

namespace Sys2Proof.Machine

/-- The device clock output (R77). -/
inductive ClkPins where
  /-- `CLK_DIFF = false`: the one pin `clk_out`. -/
  | single (clkOut : Bool)
  /-- `CLK_DIFF = true`: the pair `clk_p`, `clk_n`. -/
  | pair (clkP clkN : Bool)
deriving DecidableEq, Repr

/-- The pins and bus outputs of one cycle. A line the controller does not drive is `none`: its value is
not an observable (R94, R115, D21). -/
structure Pins where
  clk : ClkPins
  /-- `cs_n[0]`, and `cs_n[1]` if `NCS = 2`. -/
  csN : List Bool
  /-- `rst_n`, if the instance has it. -/
  rstN : Option Bool
  /-- The DQ lines; with `W = 8` the low byte. -/
  dq : Option DqLines
  /-- The RWDS lines; with `W = 8` line 0. -/
  rwds : Option RwdsLines
  ack : Bool
  datR : BusWord
  rd48 : CaWord
deriving DecidableEq, Repr

/-- The clock pins (R77; polarity D20). -/
def clkPins (s : State) : ClkPins :=
  if s.cfg.clkDiff then .pair s.clk (!s.clk) else .single s.clk

/-- The chip-select pins, active low; a second line is inactive in every cycle (R114). -/
def csPins (s : State) : List Bool :=
  match s.cfg.ncs with
  | .one => [!s.cs]
  | .two => [!s.cs, true]

/-- The device reset pin: 1 in every cycle (R116). -/
def rstPin (s : State) : Option Bool := if s.cfg.hasRstN then some true else none

/-- `dq_o`: the top byte in CA mode, the top `W` bits in data mode (R67, R94; the upper byte in CA mode
with `W = 16` is 0, D11). -/
def dqO (s : State) : DqLines :=
  if s.caActive then 0#8 ++ s.sr.extractLsb' 40 8
  else match s.cfg.width with
    | .w8 => 0#8 ++ s.sr.extractLsb' 40 8
    | .w16 => s.sr.extractLsb' 32 16

/-- The DQ pins: `dq_o` while `dq_oe = 1` (R94). -/
def dqPins (s : State) : Option DqLines := if s.dqOe then some (dqO s) else none

/-- The RWDS pins: `rwds_o` while `rwds_oe = 1` (R115). -/
def rwdsPins (s : State) : Option RwdsLines := if s.rwdsOe then some s.rwdsO else none

/-- `dat_r = sr[31:0]` (R95). -/
def datR (s : State) : BusWord := s.sr.extractLsb' 0 32

/-- Every output of the current cycle (R41). No input is read. -/
def pins (s : State) : Pins :=
  { clk := clkPins s, csN := csPins s, rstN := rstPin s, dq := dqPins s, rwds := rwdsPins s,
    ack := s.ack, datR := datR s, rd48 := s.sr }

/-- The abstract state of the current cycle (R42). -/
def abstractState (s : State) : Segment := segmentOf s.cfg s.c

end Sys2Proof.Machine
end

