-- ==== Sys2Proof/Machine/Script.lean ====
section
/-! DEFINITION. The bus master that plays a transaction script (30_encoding.md R73, R74), and the
controller with that master beside it. The master keeps the duties of R125 and R126. -/

namespace Sys2Proof.Machine

/-- A line of a script (R73). The cycle number of `@n` is optional. -/
inductive ScriptLine where
  /-- `@n RD adr`. -/
  | rd (start : Option Nat) (adr : BusAddr)
  /-- `@n WR adr, data, sel`. -/
  | wr (start : Option Nat) (adr : BusAddr) (data : BusWord) (sel : SelMask)
  /-- `IDLE k`. -/
  | idle (k : Nat)
  /-- `END`. -/
  | done
deriving DecidableEq, Repr

/-- `WRW adr, data` (R74). -/
def ScriptLine.wrw (start : Option Nat) (adr : BusAddr) (data : BusWord) : ScriptLine :=
  .wr start adr data 0b1111#4

/-- `NOP` (R74). -/
def ScriptLine.nop : ScriptLine := .idle 1

/-- No request; unused operand fields are driven as 0 (R73). -/
def idleRequest : Request := { cyc := false, stb := false, we := false, adr := 0, datW := 0, sel := 0 }

/-- The request of a READ (R73). -/
def readRequest (adr : BusAddr) : Request :=
  { cyc := true, stb := true, we := false, adr := adr, datW := 0, sel := 0 }

/-- The request of a WRITE (R73). -/
def writeRequest (adr : BusAddr) (data : BusWord) (sel : SelMask) : Request :=
  { cyc := true, stb := true, we := true, adr := adr, datW := data, sel := sel }

/-- The master: the lines still to play, and the number of the current cycle (R21). -/
structure Master where
  lines : List ScriptLine
  now : Nat
deriving DecidableEq, Repr

/-- Lines of no length play no cycle (`IDLE 0`, log 17). -/
def skipEmpty : List ScriptLine → List ScriptLine
  | .idle 0 :: rest => skipEmpty rest
  | ls => ls

/-- Whether a line with start `@n` is presented in cycle `now`. -/
def started (start : Option Nat) (now : Nat) : Bool :=
  match start with
  | none => true
  | some n => n ≤ now

/-- The request the master drives in the current cycle (R73). R73 gives no meaning to a script whose lines run
out without an END; the master then drives no request, as after END (DESIGN CHOICE, log 17). -/
def masterRequest (m : Master) : Request :=
  match skipEmpty m.lines with
  | .rd start adr :: _ => if started start m.now then readRequest adr else idleRequest
  | .wr start adr data sel :: _ => if started start m.now then writeRequest adr data sel else idleRequest
  | .idle _ :: _ => idleRequest
  | .done :: _ => idleRequest
  | [] => idleRequest

/-- The master in the next cycle, given the `ack` of this one: a presented request is held until its
`ack` cycle and dropped in the next (R73, R125, R126). -/
def masterNext (m : Master) (ack : Bool) : Master :=
  { now := m.now + 1
    lines :=
      match skipEmpty m.lines with
      | .rd start adr :: rest =>
        if started start m.now && ack then rest else .rd start adr :: rest
      | .wr start adr data sel :: rest =>
        if started start m.now && ack then rest else .wr start adr data sel :: rest
      | .idle k :: rest => if k ≤ 1 then rest else .idle (k - 1) :: rest
      | .done :: rest => .done :: rest
      | [] => [] }

/-- The controller and its script master. -/
structure Bench where
  master : Master
  ctl : State
deriving DecidableEq, Repr

/-- A script at cycle 0 on an instance in its reset state (R150, 95_test_vectors.md §3). -/
def benchStart (cfg : Config) (lines : List ScriptLine) : Bench :=
  { master := { lines := lines, now := 0 }, ctl := State.resetOf cfg }

/-- One cycle of the bench, with the DQ lines as the device drives them: the master's request is on the
bus, `rst` is 0, and the master sees this cycle's `ack`. -/
def benchCycle (b : Bench) (dq : DqLines) : Host.Outcome Bench Fault Refusal :=
  let inp : Inputs := { rst := false, req := masterRequest b.master, dqIn := dq, rwdsIn := 0 }
  match step { b.ctl with stim := [inp] } with
  | .next t => .next { master := masterNext b.master (pins b.ctl).ack, ctl := t }
  | .fault f => .fault f
  | .refused r => .refused r

/-- The bench over the cycles whose DQ inputs are listed. -/
def benchRun : List DqLines → Bench → Host.Outcome Bench Fault Refusal
  | [], b => .next b
  | dq :: rest, b =>
    match benchCycle b dq with
    | .next b' => benchRun rest b'
    | .fault f => .fault f
    | .refused r => .refused r

end Sys2Proof.Machine
end

