-- ==== Sys2Proof/Safety.lean ====
section
/-! DEFINITION. The terms in which claims about the controller are stated: runs, the invariants of R132,
what a cycle does beside the sequencer's action, the premises on the environment, and the device contract
of D27. -/

namespace Sys2Proof.Machine

/-- `t` is the state `k` cycles after `s`. -/
def ReachesIn (k : Nat) (s t : State) : Prop := Host.Core.run Sys2Proof.core k s = .next t

/-- A run of `k` cycles from `s` stops at no fault and no refusal. -/
def SafeFor (k : Nat) (s : State) : Prop := ∃ t, ReachesIn k s t

/-! ### The environment -/

/-- `rst = 0` in the next `n` cycles. -/
def NoReset (s : State) (n : Nat) : Prop := ∀ k, k < n → (s.inputAt k).rst = false

/-- The master holds the request `r` in the next `n` cycles (R125). -/
def HoldsRequest (s : State) (n : Nat) (r : Request) : Prop := ∀ k, k < n → (s.inputAt k).req = r

/-- The trigger cycle `T` of a transaction (R99). -/
def TriggerCycle (s : State) : Prop := s.c = 0 ∧ s.phase = 1 ∧ pending s.inp.req = true

/-! ### One cycle -/

/-- What happens in every cycle with `rst = 0` whatever the sequencer does, in arithmetic: the phase
(R75), the device clock (R76), the sample (R91); the parameters stay and the environment moves on. -/
def FreeRuns (s t : State) : Prop :=
  t.phase.toNat = (s.phase.toNat + 1) % 4 ∧
  t.clk = (if s.phase.toNat = 1 then s.cs else if s.phase.toNat = 3 then false else s.clk) ∧
  t.dqi.toNat = s.inp.dqIn.toNat % 2 ^ widthBits s.cfg.width ∧
  t.cfg = s.cfg ∧ t.stim = s.stim.tail ∧ t.cycle = s.cycle + 1

/-- The bits a shift moves: 8 in CA mode, else `W` (R93). -/
def shiftWidth (s : State) : Nat := if s.caActive then 8 else widthBits s.cfg.width

/-- The Data Path's update of `sr` in a cycle that loads nothing, in arithmetic (R93). -/
def ShiftsSr (s t : State) : Prop :=
  t.sr.toNat =
    if s.phase.toNat % 2 = 0 then
      (s.sr.toNat * 2 ^ shiftWidth s + s.dqi.toNat % 2 ^ shiftWidth s) % 2 ^ 48
    else s.sr.toNat

/-- The counter of a running timeline (R100). -/
def CountsOn (s t : State) : Prop := t.c = if s.c = timelineEnd s.cfg then 0 else s.c + 1

/-- The sequencer's registers other than `c` and `sr` are as before. -/
def KeepsControl (s t : State) : Prop :=
  t.cs = s.cs ∧ t.dqOe = s.dqOe ∧ t.rwdsOe = s.rwdsOe ∧ t.rwdsO = s.rwdsO ∧
  t.caActive = s.caActive ∧ t.ack = s.ack

/-- A cycle of the CA action: the CA word whose value is `x` is in `sr`, the device is selected, DQ is
driven in CA mode, and the other registers of the sequencer are as before (R104). -/
def IssuesCaWord (s t : State) (x : Nat) : Prop :=
  FreeRuns s t ∧ CountsOn s t ∧ t.sr.toNat = x ∧
  t.cs = true ∧ t.dqOe = true ∧ t.caActive = true ∧
  t.rwdsOe = s.rwdsOe ∧ t.rwdsO = s.rwdsO ∧ t.ack = s.ack

/-- A cycle of data sub-step 0 with the payload `d` and the mask value `m` (R106, R108): a write loads the
payload above 16 zero bits, drives DQ and RWDS and sets the mask; a read releases both and shifts. -/
def StartsData (s t : State) (we : Bool) (d : BusWord) (m : Nat) : Prop :=
  FreeRuns s t ∧ CountsOn s t ∧ t.dqOe = we ∧ t.rwdsOe = we ∧
  (we = true → t.sr.toNat = d.toNat * 2 ^ 16 ∧ t.rwdsO.toNat = m) ∧
  (we = false → ShiftsSr s t ∧ t.rwdsO = s.rwdsO) ∧
  t.cs = s.cs ∧ t.caActive = s.caActive ∧ t.ack = s.ack

/-- A cycle of a later data sub-step with the mask value `m` (R107, R109): a write sets the mask; nothing
else of the sequencer changes. -/
def UpdatesMask (s t : State) (we : Bool) (m : Nat) : Prop :=
  FreeRuns s t ∧ CountsOn s t ∧ ShiftsSr s t ∧
  (we = true → t.rwdsO.toNat = m) ∧ (we = false → t.rwdsO = s.rwdsO) ∧
  t.cs = s.cs ∧ t.dqOe = s.dqOe ∧ t.rwdsOe = s.rwdsOe ∧ t.caActive = s.caActive ∧ t.ack = s.ack

/-! ### The invariants of R132 -/

/-- R132, items 1 to 8, and the width of the registers (R25). Item 6 says of the write flag what the
current registers show: DQ is driven in the data phase exactly when RWDS is. -/
structure Inv (s : State) : Prop where
  count : s.c ≤ timelineEnd s.cfg
  phase : s.c ≠ 0 → s.phase.toNat = (s.c + 1) % 4
  cs : s.cs = true ↔ 4 ≤ s.c ∧ s.c ≤ teardownAt s.cfg
  caActive : s.caActive = true ↔ 4 ≤ s.c ∧ s.c ≤ 15
  ack : s.ack = true ↔ s.c = teardownAt s.cfg + 3
  rwdsOe : s.rwdsOe = true → dataStart s.cfg + 1 ≤ s.c ∧ s.c ≤ teardownAt s.cfg
  dqOe : s.dqOe = true ↔ (4 ≤ s.c ∧ s.c ≤ 15) ∨ s.rwdsOe = true
  clk : s.clk = true ↔ 5 ≤ s.c ∧ s.c ≤ teardownAt s.cfg - 1 ∧ 2 ≤ s.phase.toNat
  dqiWidth : s.dqi.toNat < 2 ^ widthBits s.cfg.width
  rwdsOWidth : s.rwdsO.toNat < 2 ^ rwdsLineCount s.cfg.width

/-! ### The wire, and the device contract (R54, R55, D27) -/

/-- The outputs in the cycle `k` cycles after `s`. -/
def pinsAt (s : State) (k : Nat) : Option Pins :=
  match Host.Core.run Sys2Proof.core k s with
  | .next t => some (pins t)
  | .fault _ => none
  | .refused _ => none

/-- The DQ lines in that cycle, if the controller drives them. -/
def wireDq (s : State) (k : Nat) : Option DqLines := (pinsAt s k).bind Pins.dq

/-- The RWDS lines in that cycle, if the controller drives them. -/
def wireRwds (s : State) (k : Nat) : Option RwdsLines := (pinsAt s k).bind Pins.rwds

/-- Byte `k` of a 48-bit word, the most significant first (R44). -/
def caByte (x : CaWord) (k : Nat) : BitVec 8 := x.extractLsb' (40 - 8 * k) 8

/-- Byte `k` of a bus word, the most significant first: wire byte `k` (R48). -/
def wordByte (d : BusWord) (k : Fin 4) : BitVec 8 := d.extractLsb' (24 - 8 * k.val) 8

/-- The low DQ byte in the cycle `k` cycles after `s`; 0 if the lines are not driven. -/
def wireLow (s : State) (k : Nat) : BitVec 8 := ((wireDq s k).getD 0).extractLsb' 0 8

/-- The CA word a device reads from the wire in a transaction triggered at `s` (R44). -/
def wireCa (s : State) : CaWord :=
  wireLow s 4 ++ wireLow s 6 ++ wireLow s 8 ++ wireLow s 10 ++ wireLow s 12 ++ wireLow s 14

/-- The cycle in which wire byte `k` of the data phase is first on the lines (R45, R46). -/
def beatAt (s : State) (k : Fin 4) : Nat :=
  match s.cfg.width with
  | .w8 => dataStart s.cfg + 1 + 2 * k.val
  | .w16 => dataStart s.cfg + 1 + 2 * (k.val / 2)

/-- The DQ byte, or the RWDS line, that carries wire byte `k`: with `W = 16` the even bytes are on the
upper lines (R46). -/
def beatLane (s : State) (k : Fin 4) : Nat :=
  match s.cfg.width with
  | .w8 => 0
  | .w16 => 1 - k.val % 2

/-- Wire byte `k` of the data phase, as the controller drives it; 0 if it does not. -/
def wireByte (s : State) (k : Fin 4) : BitVec 8 :=
  ((wireDq s (beatAt s k)).getD 0).extractLsb' (8 * beatLane s k) 8

/-- Whether wire byte `k` is masked (R34); a line that is not driven masks nothing. -/
def wireMasked (s : State) (k : Fin 4) : Bool :=
  ((wireRwds s (beatAt s k)).getD 0).getLsbD (beatLane s k)

/-- The byte that the sample of wire byte `k` takes from the DQ input lines in a transaction triggered at
`s` (R120). -/
def sampledByte (s : State) (k : Fin 4) : BitVec 8 :=
  ((s.inputAt (beatAt s k + 2)).dqIn).extractLsb' (8 * beatLane s k) 8

/-- A device's stored bytes: for each CA address (a CA word less its R/W bit), the four bytes of the word
there in the order of the wire. -/
abbrev DeviceMem := BitVec 47 → Fin 4 → BitVec 8

/-- The address a CA word names. -/
def caAddress (x : CaWord) : BitVec 47 := x.extractLsb' 0 47

/-- The device contract for a write (R54): at the addressed location each payload byte whose mask is 0 is
stored and each other byte stays. -/
def DeviceStores (s : State) (before after : DeviceMem) : Prop :=
  (wireCa s).getLsbD 47 = false → ∀ k,
    after (caAddress (wireCa s)) k =
      if wireMasked s k then before (caAddress (wireCa s)) k else wireByte s k

/-- The device contract for a read (R54, R55): the stored bytes are on the DQ lines in the cycles that are
sampled. -/
def DeviceAnswers (s : State) (mem : DeviceMem) : Prop :=
  (wireCa s).getLsbD 47 = true → ∀ k, sampledByte s k = mem (caAddress (wireCa s)) k

end Sys2Proof.Machine
end

