-- ==== Sys2Proof/Certificates/Slice0/Obligations.lean ====
section
/-! DEFINITION. The statements for the provers. Each docstring names the rules of spec/ it formalises. Where
a clause rests on a decision of 92_eei_decisions.md (D<n>), which the spec marks as its own choice, the
docstring names it. Two decisions stand under every statement about a next state and are named here once:
a register takes its new value in the next cycle (D1), and a request is pending when `cyc & stb` (D16). -/

open Sys2Proof Sys2Proof.Machine

/-! ### Encodings -/

/-- R82 to R85: the R/W bit, the space bit, the burst bit and the reserved bits of every CA word. -/
def Obligations.CaWordConstantBits : Prop :=
  ∀ (w : Width) (adr : BusAddr) (we : Bool),
    (caWord w adr we).getLsbD 47 = (!we) ∧
    (caWord w adr we).getLsbD 46 = false ∧
    (caWord w adr we).getLsbD 45 = true ∧
    (caWord w adr we).extractLsb' 3 13 = 0#13

/-- R88, R89: the address fields for `W = 16`. -/
def Obligations.CaWordAddressFieldsW16 : Prop :=
  ∀ (adr : BusAddr) (we : Bool),
    (caWord .w16 adr we).extractLsb' 16 29 = adr.extractLsb' 3 29 ∧
    (caWord .w16 adr we).extractLsb' 1 2 = adr.extractLsb' 1 2 ∧
    (caWord .w16 adr we).getLsbD 0 = adr.getLsbD 0

/-- R87: the lower address field for `W = 8`. -/
def Obligations.CaWordLowerColumnW8 : Prop :=
  ∀ (adr : BusAddr) (we : Bool),
    (caWord .w8 adr we).extractLsb' 1 2 = adr.extractLsb' 0 2 ∧ (caWord .w8 adr we).getLsbD 0 = false

/-- R90: the whole CA word as one number, for both widths. That `W = 8` drops `adr[31]` is D6. -/
def Obligations.CaWordAsNumber : Prop :=
  ∀ (adr : BusAddr) (we : Bool),
    (caWord .w8 adr we).toNat =
      (if we then 0 else 2 ^ 47) + 2 ^ 45 + adr.toNat / 4 % 2 ^ 29 * 2 ^ 16 + adr.toNat % 4 * 2 ∧
    (caWord .w16 adr we).toNat =
      (if we then 0 else 2 ^ 47) + 2 ^ 45 + adr.toNat / 8 * 2 ^ 16 + adr.toNat % 8

/-- R49, R162: with `W = 16` the CA word tells every two addresses apart; with `W = 8` exactly those that
differ below bit 31 (D6). -/
def Obligations.CaWordTellsAddressesApart : Prop :=
  ∀ (adr adr' : BusAddr) (we we' : Bool),
    (caWord .w16 adr we = caWord .w16 adr' we' ↔ adr = adr' ∧ we = we') ∧
    (caWord .w8 adr we = caWord .w8 adr' we' ↔
      adr.toNat % 2 ^ 31 = adr'.toNat % 2 ^ 31 ∧ we = we')

/-- R71, R90: the word the encoder emits is always a row of the table, the row that `W` and `we` select with
the address fields of R86 (D6) to R89. -/
def Obligations.EmittedCaWordIsATableRow : Prop :=
  ∀ (w : Width) (adr : BusAddr) (we : Bool),
    decodeCa w (caWord w adr we) = .ok (requestCaInstr w adr we)

/-- The mask and match columns of spec/opcode_table.json (R65, R66) say which words the CA decoder takes for
each of its four rows. -/
def Obligations.CaDecoderFollowsTheTable : Prop :=
  ∀ x : CaWord,
    ((∃ a b, decodeCa .w8 x = .ok (.caReadW8 a b)) ↔ x &&& 0xE0000000FFF9#48 = 0xA00000000000#48) ∧
    ((∃ a b, decodeCa .w8 x = .ok (.caWriteW8 a b)) ↔ x &&& 0xE0000000FFF9#48 = 0x200000000000#48) ∧
    ((∃ a b, decodeCa .w16 x = .ok (.caReadW16 a b)) ↔ x &&& 0xE0000000FFF8#48 = 0xA00000000000#48) ∧
    ((∃ a b, decodeCa .w16 x = .ok (.caWriteW16 a b)) ↔ x &&& 0xE0000000FFF8#48 = 0x200000000000#48)

/-- R65, R66: a CA word that decodes is the encoding of what it decodes to, which is a row of that width. -/
def Obligations.DecodedCaWordIsItsEncoding : Prop :=
  ∀ (cfg : Config) (x : CaWord) (i : Instr), decodeCa cfg.width x = .ok i →
    encode cfg i = .ca48 x ∧ i.wellFormed cfg.width = true

/-- R63, R69: every BUSREQ word decodes, and encoding what it decodes to gives every bit of it back. The
places of the operand bits are the model's (log 7). -/
def Obligations.BusReqWordKeepsEveryBit : Prop :=
  ∀ (cfg : Config) (w : BusReqWord), encode cfg (decodeBusReq w) = .busReq w

/-- R69 and the mask and match columns of the table: `cyc`, `stb`, `we` select the bus operation. Their places
in the word are the spec's own packing (R63, D16). -/
def Obligations.BusReqSelection : Prop :=
  ∀ w : BusReqWord,
    (w.getLsbD 0 = false → ∃ stb we adr d sel, decodeBusReq w = .idleNoCyc stb we adr d sel) ∧
    (w.getLsbD 0 = true → w.getLsbD 1 = false →
      ∃ we adr d sel, decodeBusReq w = .idleNoStb we adr d sel) ∧
    (w.getLsbD 0 = true → w.getLsbD 1 = true → w.getLsbD 2 = false →
      ∃ adr d sel, decodeBusReq w = .read adr d sel) ∧
    (w.getLsbD 0 = true → w.getLsbD 1 = true → w.getLsbD 2 = true →
      ∃ adr d sel, decodeBusReq w = .write adr d sel)

/-- R62 to R66, R97: decode and encode agree, for every instance and every row it has, with every operand, in
all three formats. The places of the BUSREQ operand bits are the model's (log 7). -/
def Obligations.DecodeInvertsEncode : Prop :=
  ∀ (cfg : Config) (i : Instr), i.wellFormed cfg.width = true → decode cfg (encode cfg i) = .ok i

/-- Sample words written out, and the rows they are. The CA words are those of 95_test_vectors.md (2.2 CA1, CA6,
CA7, CA12, CA13). The BUSREQ words are packed from fields: two are the requests of program P1, for which that
file gives `req`, `adr`, `dat_w` and `sel` and no packed word, and two are idle requests (R69). The places of the
operand bits in a BUSREQ word are the model's choice (DESIGN CHOICE, log 7), and the place of the selector is the
spec's own packing (R63, D16). -/
def Obligations.DecodedSampleWords : Prop :=
  decodeBusReq 0b000#71 = .idleNoCyc false false 0 0 0 ∧
  decodeBusReq 0b101#71 = .idleNoStb true 0 0 0 ∧
  decodeBusReq (0x0#4 ++ 0x00000000#32 ++ 0x00000100#32 ++ 0b011#3) = .read 0x100 0 0 ∧
  decodeBusReq (0xF#4 ++ 0xDEADBEEF#32 ++ 0x00000100#32 ++ 0b111#3) = .write 0x100 0xDEADBEEF 0xF ∧
  decodeCa .w8 0xA00000000000#48 = .ok (.caReadW8 0 0) ∧
  decodeCa .w8 0x248D159E0000#48 = .ok (.caWriteW8 0x048D159E#29 0) ∧
  decodeCa .w8 0xA00000000006#48 = .ok (.caReadW8 0 3) ∧
  decodeCa .w16 0x200000000007#48 = .ok (.caWriteW16 0 7) ∧
  decodeCa .w16 0xA2468ACF0000#48 = .ok (.caReadW16 0x02468ACF#29 0)

/-- R97: the offsets that the delays of the timeline sum to, the row at each, and the phase of its cycle,
which R97 marks as derived, for both widths and every latency. -/
def Obligations.TimelineOffsetsOfEachWidth : Prop :=
  ∀ cfg : Config,
    let S := 11 + 8 * latency cfg
    (cfg.width = .w8 →
      (timelineOffsets cfg).map (fun e => (e.1, e.2, (1 + e.1) % 4)) =
        [(0, .tlTrigger, 1), (3, .tlCa, 0), (15, .tlLatency, 0), (S, .tlData0W8, 0),
         (S + 2, .tlMaskW8 1, 2), (S + 4, .tlMaskW8 2, 0), (S + 6, .tlMaskW8 3, 2),
         (S + 8, .tlTeardown, 0), (S + 10, .tlAck, 2), (S + 11, .tlAckClr, 3), (S + 12, .tlEnd, 0)] ∧
      timelineEnd cfg = S + 12) ∧
    (cfg.width = .w16 →
      (timelineOffsets cfg).map (fun e => (e.1, e.2, (1 + e.1) % 4)) =
        [(0, .tlTrigger, 1), (3, .tlCa, 0), (15, .tlLatency, 0), (S, .tlData0W16, 0),
         (S + 2, .tlMaskW16, 2), (S + 4, .tlTeardown, 0), (S + 6, .tlAck, 2), (S + 7, .tlAckClr, 3),
         (S + 8, .tlEnd, 0)] ∧
      timelineEnd cfg = S + 8)

/-- R97, R100, R103: the row that the counter selects is the entry of the timeline at that offset, and a gap
where there is none. -/
def Obligations.TimelineRowIsTheTableEntry : Prop :=
  ∀ (cfg : Config) (k : Nat), k ≠ 0 →
    timelineRow cfg k = (((timelineOffsets cfg).find? (fun e => e.1 == k)).map Prod.snd).getD .tlGap

/-! ### The step -/

/-- R69, R128: a step with `rst = 0` runs the operation that the request lines decode to, which is a row of
the table with the live request's operands. -/
def Obligations.StepRunsTheDecodedRequest : Prop :=
  ∀ s : State, s.inp.rst = false →
    step s = exec (decodeBusReq (fetchWord s)) s ∧
    decodeBusReq (fetchWord s) = requestInstr s.inp.req ∧
    (requestInstr s.inp.req).wellFormed s.cfg.width = true

/-- R100, R128: whenever a timeline row is active, the cycle that the request's meaning takes is the cycle of
that row. -/
def Obligations.StepPerformsTheTimelineRow : Prop :=
  ∀ (s : State) (i : Instr), s.inp.rst = false →
    decode s.cfg (.timeline (timelineSelector s)) = .ok i → step s = exec i s

/-- R119, R120, R121, R102, R125: whatever bus operation is on the lines, a running timeline continues: its
cycle is the timeline row's, with the operation's fields read live (D17). -/
def Obligations.RequestContinuesARunningTimeline : Prop :=
  ∀ (s : State) (r : Request), s.c ≠ 0 →
    exec (requestInstr r) s =
      exec (timelineRow s.cfg s.c) { s with stim := { s.inp with rst := false, req := r } :: s.stim.tail }

/-- R81, R104: at offset 3 the cycle is that of the CA row which `W`, `adr` and `we` of this cycle select. -/
def Obligations.StepIssuesTheCaRow : Prop :=
  ∀ s : State, s.inp.rst = false → s.c = 3 →
    step s = exec (requestCaInstr s.cfg.width s.inp.req.adr s.inp.req.we) s

/-- The model's own placing of an instruction (log 8, log 9): the next step runs the placed word. -/
def Obligations.PlacedWordRunsNext : Prop :=
  ∀ (s : State) (nbits w : Nat) (i : Instr), decodeTableWord nbits w = some i →
    step (s.withFetchWord nbits w) = exec i (s.withFetchWord nbits w)

/-- R131, R137: no step and no row stops the machine; each answers a next state. -/
def Obligations.EveryCycleCompletes : Prop :=
  (∀ s : State, ∃ t, step s = .next t) ∧ ∀ (i : Instr) (s : State), ∃ t, exec i s = .next t

/-- R149, R140, R161, R116: a cycle with `rst = 1` gives the reset state whatever the timeline, the phase or
the request, and leaves the device reset pin as it is. That every reset value is 0 is D2, that reset is
synchronous D3, the pin D28. -/
def Obligations.SystemResetClearsEveryRegister : Prop :=
  ∀ s : State, s.inp.rst = true → ∃ t, step s = .next t ∧
    t.phase = 0 ∧ t.clk = false ∧ t.dqi = 0 ∧ t.sr = 0 ∧ t.caActive = false ∧ t.cs = false ∧
    t.dqOe = false ∧ t.rwdsOe = false ∧ t.rwdsO = 0 ∧ t.ack = false ∧ t.c = 0 ∧
    t.cfg = s.cfg ∧ t.stim = s.stim.tail ∧ t.cycle = s.cycle + 1 ∧ (pins t).rstN = (pins s).rstN

/-- R132: every step keeps the invariants. -/
def Obligations.StepKeepsTheInvariant : Prop :=
  ∀ s t : State, Inv s → step s = .next t → Inv t

/-- R132: the invariants hold in the reset state of every instance, `State.reset` among them. -/
def Obligations.ResetStateMeetsTheInvariant : Prop :=
  (∀ cfg : Config, Inv (State.resetOf cfg)) ∧ Inv State.reset

/-- R132 item 8, R119: with the sequencer idle every pin is at its idle value. -/
def Obligations.IdleSequencerLeavesPinsIdle : Prop :=
  ∀ s : State, Inv s → s.c = 0 →
    (∀ b ∈ (pins s).csN, b = true) ∧
    (pins s).clk = (if s.cfg.clkDiff then .pair false true else .single false) ∧
    (pins s).dq = none ∧ (pins s).rwds = none ∧ (pins s).ack = false ∧ s.caActive = false

/-- R75: the phase counter, whatever the request, the sequencer or the chip select. -/
def Obligations.PhaseAdvancesEveryCycle : Prop :=
  ∀ s : State, s.inp.rst = false →
    ∃ t, step s = .next t ∧ t.phase.toNat = (s.phase.toNat + 1) % 4

/-- R75, R76, R91: the free-running components in every cycle. The registered clock is D1, the sampling of a
free `dq_in` D18. -/
def Obligations.FreeRunningComponents : Prop :=
  ∀ s : State, s.inp.rst = false → ∃ t, step s = .next t ∧ FreeRuns s t

/-- R93, R129: in every cycle `sr` is loaded with the CA word at offset 3, with the payload at offset `S` of
a write, and is otherwise shifted in even phases. The direction of the shift is D10, the priority of the
load D9, that a read loads nothing D12. -/
def Obligations.ShiftRegisterLoadsOrShifts : Prop :=
  ∀ s : State, s.inp.rst = false → ∃ t, step s = .next t ∧
    (if s.c = 3 then t.sr = caWord s.cfg.width s.inp.req.adr s.inp.req.we
     else if s.c = dataStart s.cfg ∧ s.inp.req.we = true then
       t.sr.toNat = s.inp.req.datW.toNat * 2 ^ 16
     else ShiftsSr s t)

/-- R96: a shift of `n` bits in an even-phase cycle brings in the DQ lines of the cycle before it. -/
def Obligations.ShiftBringsInTheLastSample : Prop :=
  ∀ s : State, NoReset s 2 → s.phase.toNat % 2 = 1 →
    ∃ t u, step s = .next t ∧ step t = .next u ∧
      (t.c ≠ 3 → ¬ (t.c = dataStart s.cfg ∧ (s.inputAt 1).req.we = true) →
        u.sr.toNat % 2 ^ shiftWidth t = s.inp.dqIn.toNat % 2 ^ shiftWidth t)

/-! ### The bus operations, one cycle -/

/-- R119: an idle operation with the sequencer idle triggers nothing; the Phase Generator and the Data Path
run on by R75, R76, R91 and R93 (direction of the shift D10, free `dq_in` D18). -/
def Obligations.IdleOperationsTriggerNothing : Prop :=
  ∀ (s : State) (stb we : Bool) (adr : BusAddr) (d : BusWord) (sel : SelMask), s.c = 0 →
    (∃ t, exec (.idleNoCyc stb we adr d sel) s = .next t ∧
      FreeRuns s t ∧ ShiftsSr s t ∧ KeepsControl s t ∧ t.c = 0) ∧
    (∃ t, exec (.idleNoStb we adr d sel) s = .next t ∧
      FreeRuns s t ∧ ShiftsSr s t ∧ KeepsControl s t ∧ t.c = 0)

/-- R99, R80, R120, R121: a READ or a WRITE with the sequencer idle starts the timeline at phase 1 and waits at
every other phase; it writes no other register of the sequencer, and the free-running components advance by
R75, R76, R91 and R93 (direction of the shift D10, free `dq_in` D18). -/
def Obligations.RequestTriggersOnlyAtPhaseOne : Prop :=
  ∀ (s : State) (adr : BusAddr) (d : BusWord) (sel : SelMask), s.c = 0 →
    (∃ t, exec (.read adr d sel) s = .next t ∧
      FreeRuns s t ∧ ShiftsSr s t ∧ KeepsControl s t ∧ t.c = if s.phase = 1 then 1 else 0) ∧
    (∃ t, exec (.write adr d sel) s = .next t ∧
      FreeRuns s t ∧ ShiftsSr s t ∧ KeepsControl s t ∧ t.c = if s.phase = 1 then 1 else 0)

/-- R99: the trigger of an idle sequencer in every cycle with `rst = 0` (`pending` is D16). -/
def Obligations.TriggerRule : Prop :=
  ∀ s : State, s.inp.rst = false → s.c = 0 → ∃ t, step s = .next t ∧ KeepsControl s t ∧
    t.c = if s.inp.req.cyc = true ∧ s.inp.req.stb = true ∧ s.phase.toNat = 1 then 1 else 0

/-- R80: a request pending from a cycle of phase `p` with the sequencer idle is triggered `(1 - p) mod 4`
cycles later, and not before. -/
def Obligations.RequestWaitsForPhaseOne : Prop :=
  ∀ s : State, s.c = 0 → NoReset s ((5 - s.phase.toNat) % 4 + 1) →
    (∀ k, k ≤ (5 - s.phase.toNat) % 4 → pending (s.inputAt k).req = true) →
    (∀ k, k ≤ (5 - s.phase.toNat) % 4 → ∃ t, ReachesIn k s t ∧ t.c = 0) ∧
    ∃ t, ReachesIn ((5 - s.phase.toNat) % 4 + 1) s t ∧ t.c = 1

/-- R50, R120: a READ ignores the payload and the byte selects in every cycle. -/
def Obligations.ReadIgnoresPayloadAndSelects : Prop :=
  ∀ (s : State) (adr : BusAddr) (d d' : BusWord) (sel sel' : SelMask),
    exec (.read adr d sel) s = exec (.read adr d' sel') s

/-- R92 (D19): the RWDS input lines are never read. -/
def Obligations.RwdsInputIsNeverRead : Prop :=
  ∀ (s : State) (i : Inputs) (rest : List Inputs) (x : RwdsLines),
    step { s with stim := i :: rest } = step { s with stim := { i with rwdsIn := x } :: rest }

/-- R102: a running timeline does not depend on `cyc` and `stb`. -/
def Obligations.RunningTimelineIgnoresCycAndStb : Prop :=
  ∀ (s : State) (i : Inputs) (rest : List Inputs) (cyc stb : Bool), s.c ≠ 0 →
    step { s with stim := i :: rest } =
      step { s with stim := { i with req := { i.req with cyc := cyc, stb := stb } } :: rest }

/-! ### The timeline rows

Each statement of this part is about `exec` of a row in EVERY state. The spec gives a row its effect in the
cycle that selects it; that `exec` does the same in any other state, and on an instance of either width, is the
model's choice (DESIGN CHOICE, log 11). StepPerformsTheTimelineRow and StepIssuesTheCaRow say which row a step
performs. The free-running components of every such cycle are R75, R76, R91 and R93 (direction of the shift
D10, free `dq_in` D18). -/

/-- R99, R103, R113: the three rows without an action write no register of the sequencer but `c`: the trigger
starts it at 1, a gap counts on, the end returns it to 0. The shift is R93 (D10). In states that do not select
the row this is the model's choice (log 11). -/
def Obligations.RowsWithoutActionOnlyCount : Prop :=
  ∀ s : State,
    (∃ t, exec .tlTrigger s = .next t ∧
      FreeRuns s t ∧ ShiftsSr s t ∧ KeepsControl s t ∧ t.c = 1) ∧
    (∃ t, exec .tlGap s = .next t ∧
      FreeRuns s t ∧ ShiftsSr s t ∧ KeepsControl s t ∧ CountsOn s t) ∧
    (∃ t, exec .tlEnd s = .next t ∧
      FreeRuns s t ∧ ShiftsSr s t ∧ KeepsControl s t ∧ t.c = 0)

/-- R104: the CA action, with the CA word of this cycle's `adr` and `we`; the load wins over the shift (D9). In
states with `c` other than 3 this is the model's choice (log 11). -/
def Obligations.TlCaIssuesTheRequestsWord : Prop :=
  ∀ s : State, ∃ t, exec .tlCa s = .next t ∧
    IssuesCaWord s t (caWord s.cfg.width s.inp.req.adr s.inp.req.we).toNat

/-- R65, R66, R104: each CA row issues its own word, given as a number (load over shift D9). On an instance of
the other width, and in states with `c` other than 3, this is the model's choice (log 11). -/
def Obligations.CaRowsIssueTheirWords : Prop :=
  ∀ (s : State) (a : BitVec 29) (b : BitVec 2) (b' : BitVec 3),
    (∃ t, exec (.caReadW8 a b) s = .next t ∧
      IssuesCaWord s t (2 ^ 47 + 2 ^ 45 + a.toNat * 2 ^ 16 + b.toNat * 2)) ∧
    (∃ t, exec (.caWriteW8 a b) s = .next t ∧
      IssuesCaWord s t (2 ^ 45 + a.toNat * 2 ^ 16 + b.toNat * 2)) ∧
    (∃ t, exec (.caReadW16 a b') s = .next t ∧
      IssuesCaWord s t (2 ^ 47 + 2 ^ 45 + a.toNat * 2 ^ 16 + b'.toNat)) ∧
    (∃ t, exec (.caWriteW16 a b') s = .next t ∧
      IssuesCaWord s t (2 ^ 45 + a.toNat * 2 ^ 16 + b'.toNat))

/-- R105: the latency action releases DQ and leaves CA mode; the shift of its own cycle is still made in the
old mode (R93, D10). In states with `c` other than 15 this is the model's choice (log 11). -/
def Obligations.TlLatencyReleasesDq : Prop :=
  ∀ s : State, ∃ t, exec .tlLatency s = .next t ∧
    FreeRuns s t ∧ ShiftsSr s t ∧ CountsOn s t ∧ t.dqOe = false ∧ t.caActive = false ∧
    t.cs = s.cs ∧ t.rwdsOe = s.rwdsOe ∧ t.rwdsO = s.rwdsO ∧ t.ack = s.ack

/-- R106, R108: data sub-step 0 of each width. The place of the payload is conflict C4, the lane order D13, the
line mapping for `W = 16` D14, that a read loads nothing D12, that the load of a write wins D9, the shift of a
read R93 with D10. On an instance of the other width, and in states with `c` other than `S`, this is the
model's choice (log 11). -/
def Obligations.TlData0StartsTheData : Prop :=
  ∀ s : State,
    (∃ t, exec .tlData0W8 s = .next t ∧
      StartsData s t s.inp.req.we s.inp.req.datW (if s.inp.req.sel.getLsbD 0 then 0 else 1)) ∧
    (∃ t, exec .tlData0W16 s = .next t ∧
      StartsData s t s.inp.req.we s.inp.req.datW
        ((if s.inp.req.sel.getLsbD 0 then 0 else 2) + if s.inp.req.sel.getLsbD 1 then 0 else 1))

/-- R107, R109: a later sub-step of each width sets the mask of its byte or bytes (lane order D13, line mapping
D14); `sr` shifts by R93 (D10). On an instance of the other width, and in states that do not select the row,
this is the model's choice (log 11), and so is what the ill-formed sub-step 0 of TL_MASK_W8 does (log 11, log 19). -/
def Obligations.TlMaskSetsTheMask : Prop :=
  ∀ s : State,
    (∀ k : Fin 4, ∃ t, exec (.tlMaskW8 k) s = .next t ∧
      UpdatesMask s t s.inp.req.we (if s.inp.req.sel.getLsbD k.val then 0 else 1)) ∧
    (∃ t, exec .tlMaskW16 s = .next t ∧
      UpdatesMask s t s.inp.req.we
        ((if s.inp.req.sel.getLsbD 2 then 0 else 2) + if s.inp.req.sel.getLsbD 3 then 0 else 1))

/-- R110: the teardown releases the device and both groups of lines; `rwds_o` keeps its value; `sr` shifts by R93
(D10). In states with `c` other than `S + D` this is the model's choice (log 11). -/
def Obligations.TlTeardownReleasesEverything : Prop :=
  ∀ s : State, ∃ t, exec .tlTeardown s = .next t ∧
    FreeRuns s t ∧ ShiftsSr s t ∧ CountsOn s t ∧ t.cs = false ∧ t.rwdsOe = false ∧ t.dqOe = false ∧
    t.rwdsO = s.rwdsO ∧ t.caActive = s.caActive ∧ t.ack = s.ack

/-- R111, R112: the acknowledge action raises `ack`, the acknowledge-clear action lowers it, and neither
writes another register of the sequencer but `c`; `sr` shifts by R93 (D10). In states that do not select the
row this is the model's choice (log 11). -/
def Obligations.TlAckRaisesAndTlAckClrLowersAck : Prop :=
  ∀ s : State,
    (∃ t, exec .tlAck s = .next t ∧
      FreeRuns s t ∧ ShiftsSr s t ∧ CountsOn s t ∧ t.ack = true ∧ t.cs = s.cs ∧ t.dqOe = s.dqOe ∧
      t.rwdsOe = s.rwdsOe ∧ t.rwdsO = s.rwdsO ∧ t.caActive = s.caActive) ∧
    (∃ t, exec .tlAckClr s = .next t ∧
      FreeRuns s t ∧ ShiftsSr s t ∧ CountsOn s t ∧ t.ack = false ∧ t.cs = s.cs ∧ t.dqOe = s.dqOe ∧
      t.rwdsOe = s.rwdsOe ∧ t.rwdsO = s.rwdsO ∧ t.caActive = s.caActive)

/-! ### Whole transactions -/

/-- R100, R101, R126, R155: after a trigger the counter is the offset in every cycle up to `E`, whatever the
request does; in cycle `T + P` the sequencer is idle at phase 1 again, and a request pending then triggers
the next transaction. -/
def Obligations.TimelineRunsToItsEnd : Prop :=
  ∀ s : State, TriggerCycle s → NoReset s (period s.cfg) →
    (∀ j, 0 < j → j ≤ timelineEnd s.cfg → ∃ t, ReachesIn j s t ∧ t.c = j) ∧
    (∃ t, ReachesIn (period s.cfg) s t ∧ t.c = 0 ∧ t.phase = 1) ∧
    ((s.inputAt (period s.cfg)).rst = false → ∃ t, ReachesIn (period s.cfg + 1) s t ∧
      t.c = if pending (s.inputAt (period s.cfg)).req then 1 else 0)

/-- R118, R102: one transaction gives `ack` in exactly one cycle, `T + E - 1`, whether or not the request is
still there (conflict C1). -/
def Obligations.AckInExactlyOneCycle : Prop :=
  ∀ s : State, Inv s → TriggerCycle s → NoReset s (period s.cfg) →
    ∀ j, j ≤ period s.cfg → ∃ t, ReachesIn j s t ∧ ((pins t).ack = true ↔ j = timelineEnd s.cfg - 1)

/-- R44: the six bytes of the CA word of cycle `T + 3` are on the low DQ lines for two cycles each, the most
significant first, with the device selected. With `W = 16` the upper lines carry 0 (D11). -/
def Obligations.CaBytesOnTheWire : Prop :=
  ∀ s : State, TriggerCycle s → NoReset s 16 → ∀ k, k < 6 → ∀ e, e < 2 →
    ∃ t, ReachesIn (4 + 2 * k + e) s t ∧ (pins t).csN.head? = some false ∧
      (pins t).dq =
        some (0#8 ++ caByte (caWord s.cfg.width (s.inputAt 3).req.adr (s.inputAt 3).req.we) k)

/-- R120, R47: in the acknowledge cycle of a held READ `dat_r` is made of the DQ lines of fixed cycles,
whatever the device drove on them. The bits that form `dat_r` are D15, the shift D10. -/
def Obligations.ReadReturnsTheSampledBeats : Prop :=
  ∀ (s : State) (adr : BusAddr) (d : BusWord) (sel : SelMask), s.c = 0 → s.phase = 1 →
    NoReset s (timelineEnd s.cfg) → HoldsRequest s (timelineEnd s.cfg) ⟨true, true, false, adr, d, sel⟩ →
    let S := dataStart s.cfg
    let dq := fun k => (s.inputAt k).dqIn
    ∃ t, ReachesIn (timelineEnd s.cfg - 1) s t ∧ (pins t).ack = true ∧
      (pins t).datR = match s.cfg.width with
        | .w8 => (dq (S + 3)).extractLsb' 0 8 ++ (dq (S + 5)).extractLsb' 0 8 ++
            (dq (S + 7)).extractLsb' 0 8 ++ (dq (S + 9)).extractLsb' 0 8
        | .w16 => dq (S + 3) ++ dq (S + 5)

/-- R121, R45: a held WRITE with `W = 8` drives byte `k` of the payload with the mask `~sel[k]` in both cycles
of sub-step `k` (lane order D13), and is acknowledged with the device released. -/
def Obligations.WriteDrivesTheBytesW8 : Prop :=
  ∀ (s : State) (adr : BusAddr) (d : BusWord) (sel : SelMask), s.c = 0 → s.phase = 1 →
    s.cfg.width = .w8 → NoReset s (timelineEnd s.cfg) →
    HoldsRequest s (timelineEnd s.cfg) ⟨true, true, true, adr, d, sel⟩ →
    (∀ k : Fin 4, ∀ e, e < 2 → ∃ t, ReachesIn (dataStart s.cfg + 1 + 2 * k.val + e) s t ∧
      (pins t).csN.head? = some false ∧ (pins t).dq = some (0#8 ++ wordByte d k) ∧
      (pins t).rwds = some (0#1 ++ BitVec.ofBool (!sel.getLsbD k.val))) ∧
    ∃ t, ReachesIn (timelineEnd s.cfg - 1) s t ∧ (pins t).ack = true ∧
      (pins t).csN.head? = some true ∧ (pins t).dq = none ∧ (pins t).rwds = none

/-- R121, R46: a held WRITE with `W = 16` drives the upper half of the payload and then the lower, each byte
with the mask of its own select bit (line mapping D14). -/
def Obligations.WriteDrivesTheHalvesW16 : Prop :=
  ∀ (s : State) (adr : BusAddr) (d : BusWord) (sel : SelMask), s.c = 0 → s.phase = 1 →
    s.cfg.width = .w16 → NoReset s (timelineEnd s.cfg) →
    HoldsRequest s (timelineEnd s.cfg) ⟨true, true, true, adr, d, sel⟩ →
    (∀ k : Fin 2, ∀ e, e < 2 → ∃ t, ReachesIn (dataStart s.cfg + 1 + 2 * k.val + e) s t ∧
      (pins t).csN.head? = some false ∧ (pins t).dq = some (d.extractLsb' (16 - 16 * k.val) 16) ∧
      (pins t).rwds = some (BitVec.ofBool (!sel.getLsbD (2 * k.val)) ++
        BitVec.ofBool (!sel.getLsbD (2 * k.val + 1)))) ∧
    ∃ t, ReachesIn (timelineEnd s.cfg - 1) s t ∧ (pins t).ack = true ∧
      (pins t).csN.head? = some true ∧ (pins t).dq = none ∧ (pins t).rwds = none

/-- R79: the device clock of one transaction: high in the two cycles after each phase-1 cycle in which the
device is selected, low in every other. -/
def Obligations.DeviceClockOfATransaction : Prop :=
  ∀ s : State, Inv s → TriggerCycle s → NoReset s (period s.cfg) →
    ∀ j, j ≤ period s.cfg → ∃ t, ReachesIn j s t ∧
      (t.clk = true ↔ 5 ≤ j ∧ j ≤ teardownAt s.cfg - 1 ∧ (j % 4 = 1 ∨ j % 4 = 2))

/-- R159, R132 item 6: the cycles in which the controller drives DQ and RWDS. The write cycles are those of
a transaction whose `we` at offset `S` is 1. -/
def Obligations.BusTurnaround : Prop :=
  ∀ s : State, Inv s → TriggerCycle s → NoReset s (period s.cfg) →
    ∀ j, j ≤ period s.cfg → ∃ t, ReachesIn j s t ∧
      ((pins t).rwds.isSome = true ↔ (s.inputAt (dataStart s.cfg)).req.we = true ∧
        dataStart s.cfg + 1 ≤ j ∧ j ≤ teardownAt s.cfg) ∧
      ((pins t).dq.isSome = true ↔ (4 ≤ j ∧ j ≤ 15) ∨
        ((s.inputAt (dataStart s.cfg)).req.we = true ∧ dataStart s.cfg + 1 ≤ j ∧ j ≤ teardownAt s.cfg))

/-- R122 (D26): the read result of the acknowledge cycle still stands in the cycle after it. -/
def Obligations.ReadDataStandsOneMoreCycle : Prop :=
  ∀ s : State, Inv s → s.ack = true → s.inp.rst = false →
    ∃ t, step s = .next t ∧ (pins t).datR = (pins s).datR ∧ (pins t).rd48 = (pins s).rd48 ∧
      (pins t).ack = false

/-- R57, R54, R45 to R48: under the device contract (D27), a READ of an address after an acknowledged WRITE
to it returns the bytes whose select bit was 1, and the stored byte elsewhere. The contract is a premise
about the device (log 16); the controller does not enforce it. -/
def Obligations.ReadAfterWriteUnderTheDeviceContract : Prop :=
  ∀ (s s' : State) (adr : BusAddr) (d d' : BusWord) (sel sel' : SelMask) (before after : DeviceMem),
    s'.cfg = s.cfg → s.c = 0 → s.phase = 1 → s'.c = 0 → s'.phase = 1 →
    NoReset s (timelineEnd s.cfg) → HoldsRequest s (timelineEnd s.cfg) ⟨true, true, true, adr, d, sel⟩ →
    NoReset s' (timelineEnd s.cfg) →
    HoldsRequest s' (timelineEnd s.cfg) ⟨true, true, false, adr, d', sel'⟩ →
    DeviceStores s before after → DeviceAnswers s' after →
    ∃ t, ReachesIn (timelineEnd s.cfg - 1) s' t ∧ (pins t).ack = true ∧
      ∀ k : Fin 4, wordByte (pins t).datR k =
        if sel.getLsbD k.val then wordByte d k
        else before (caAddress (caWord s.cfg.width adr true)) k

/-! ### Outputs and abstract state -/

/-- R67, R94: the DQ pins of each mode, in arithmetic (upper lines in CA mode with `W = 16`: D11; undriven
lines: D21). -/
def Obligations.DqPinsOfEachMode : Prop :=
  ∀ s : State,
    (s.dqOe = false → (pins s).dq = none) ∧
    (s.dqOe = true → ∃ v, (pins s).dq = some v ∧
      v.toNat = if s.caActive = true ∨ s.cfg.width = .w8 then s.sr.toNat / 2 ^ 40
        else s.sr.toNat / 2 ^ 32)

/-- R77, R95, R114, R115, R118: the other outputs (active-low select D16, clock pair D20, read word D15). -/
def Obligations.OutputsFollowTheRegisters : Prop :=
  ∀ s : State,
    (pins s).clk = (if s.cfg.clkDiff then .pair s.clk (!s.clk) else .single s.clk) ∧
    (s.cfg.ncs = .one → (pins s).csN = [!s.cs]) ∧
    (s.cfg.ncs = .two → (pins s).csN = [!s.cs, true]) ∧
    (pins s).rwds = (if s.rwdsOe then some s.rwdsO else none) ∧
    (pins s).ack = s.ack ∧ (pins s).rd48 = s.sr ∧ (pins s).datR.toNat = s.sr.toNat % 2 ^ 32

/-- R116: the device reset pin is 1 in every cycle, in a cycle with `rst = 1` too (D28). -/
def Obligations.DeviceResetPinStaysHigh : Prop :=
  ∀ s : State, (pins s).rstN = if s.cfg.hasRstN then some true else none

/-- R42: in a state that meets the invariants, the abstract state names what the registers show. -/
def Obligations.SegmentNamesTheRegisters : Prop :=
  ∀ s : State, Inv s →
    (abstractState s = .idle ↔ s.c = 0) ∧
    (abstractState s = .ca ↔ s.caActive = true) ∧
    ((abstractState s = .ca ∨ abstractState s = .latency ∨ abstractState s = .data) ↔ s.cs = true) ∧
    (s.rwdsOe = true → abstractState s = .data) ∧
    (s.ack = true → abstractState s = .ack)

/-! ### Construction, and the script master -/

/-- R133: an unsupported width is refused before any cycle, with the offending width recorded. -/
def Obligations.UnsupportedWidthIsRefused : Prop :=
  ∀ p : Params, p.w ≠ 8 → p.w ≠ 16 →
    construct p = .refused (.config (.badWidth p.w))

/-- R134, R135, R136: the error codes, the later checks in their order, and what is built when all pass: an
instance of those parameters in its reset state. The ranges are D7 and D8, the codes and the order D25. -/
def Obligations.ConstructionChecksInOrder : Prop :=
  (∀ w, configErrorCode (.badWidth w) = 1) ∧
  ∀ p : Params, (p.w = 8 ∨ p.w = 16) →
    ((p.l.den ≠ 1 ∨ p.l < 1) →
      construct p = .refused (.config (.badLatency p.l)) ∧ configErrorCode (.badLatency p.l) = 2) ∧
    (p.l.den = 1 → 1 ≤ p.l → p.ncs ≠ 1 → p.ncs ≠ 2 →
      construct p = .refused (.config (.badNcs p.ncs)) ∧ configErrorCode (.badNcs p.ncs) = 3) ∧
    (p.l.den = 1 → 1 ≤ p.l → (p.ncs = 1 ∨ p.ncs = 2) →
      ∃ cfg : Config, construct p = .next (State.resetOf cfg) ∧
        (widthBits cfg.width : Int) = p.w ∧ (latency cfg : Rat) = p.l ∧
        (cfg.ncs = .one ↔ p.ncs = 1) ∧ cfg.hasRstN = p.hasRstN ∧ cfg.clkDiff = p.clkDiff)

/-- R73, R125 (notation D24): the script master holds a request it presents, unchanged, until its `ack`. -/
def Obligations.ScriptMasterHoldsItsRequest : Prop :=
  ∀ m : Master, pending (masterRequest m) = true →
    masterRequest (masterNext m false) = masterRequest m
end

