-- ==== Sys2Proof/Laws/State.lean ====
section
/-! SUPPORT. What each update of the state does to each field: one lemma for each, so that no proof unfolds a
record update. -/

namespace Sys2Proof.Machine

/-! ### nextInputs -/

@[simp] theorem nextInputs_cfg (s : State) : (nextInputs s).cfg = s.cfg := rfl
@[simp] theorem nextInputs_phase (s : State) : (nextInputs s).phase = s.phase := rfl
@[simp] theorem nextInputs_clk (s : State) : (nextInputs s).clk = s.clk := rfl
@[simp] theorem nextInputs_dqi (s : State) : (nextInputs s).dqi = s.dqi := rfl
@[simp] theorem nextInputs_sr (s : State) : (nextInputs s).sr = s.sr := rfl
@[simp] theorem nextInputs_caActive (s : State) : (nextInputs s).caActive = s.caActive := rfl
@[simp] theorem nextInputs_cs (s : State) : (nextInputs s).cs = s.cs := rfl
@[simp] theorem nextInputs_dqOe (s : State) : (nextInputs s).dqOe = s.dqOe := rfl
@[simp] theorem nextInputs_rwdsOe (s : State) : (nextInputs s).rwdsOe = s.rwdsOe := rfl
@[simp] theorem nextInputs_rwdsO (s : State) : (nextInputs s).rwdsO = s.rwdsO := rfl
@[simp] theorem nextInputs_ack (s : State) : (nextInputs s).ack = s.ack := rfl
@[simp] theorem nextInputs_c (s : State) : (nextInputs s).c = s.c := rfl
@[simp] theorem nextInputs_stim (s : State) : (nextInputs s).stim = s.stim.tail := rfl
@[simp] theorem nextInputs_cycle (s : State) : (nextInputs s).cycle = s.cycle + 1 := rfl

/-! ### systemReset -/

@[simp] theorem systemReset_cfg (s : State) : (systemReset s).cfg = s.cfg := rfl
@[simp] theorem systemReset_phase (s : State) : (systemReset s).phase = 0 := rfl
@[simp] theorem systemReset_clk (s : State) : (systemReset s).clk = false := rfl
@[simp] theorem systemReset_dqi (s : State) : (systemReset s).dqi = 0 := rfl
@[simp] theorem systemReset_sr (s : State) : (systemReset s).sr = 0 := rfl
@[simp] theorem systemReset_caActive (s : State) : (systemReset s).caActive = false := rfl
@[simp] theorem systemReset_cs (s : State) : (systemReset s).cs = false := rfl
@[simp] theorem systemReset_dqOe (s : State) : (systemReset s).dqOe = false := rfl
@[simp] theorem systemReset_rwdsOe (s : State) : (systemReset s).rwdsOe = false := rfl
@[simp] theorem systemReset_rwdsO (s : State) : (systemReset s).rwdsO = 0 := rfl
@[simp] theorem systemReset_ack (s : State) : (systemReset s).ack = false := rfl
@[simp] theorem systemReset_c (s : State) : (systemReset s).c = 0 := rfl
@[simp] theorem systemReset_stim (s : State) : (systemReset s).stim = s.stim.tail := rfl
@[simp] theorem systemReset_cycle (s : State) : (systemReset s).cycle = s.cycle + 1 := rfl

/-! ### freeRun -/

@[simp] theorem freeRun_cfg (s : State) (inp : Inputs) :
    (freeRun s inp).cfg = s.cfg := rfl
@[simp] theorem freeRun_phase (s : State) (inp : Inputs) :
    (freeRun s inp).phase = s.phase + 1 := rfl
@[simp] theorem freeRun_clk (s : State) (inp : Inputs) :
    (freeRun s inp).clk = nextClk s := rfl
@[simp] theorem freeRun_dqi (s : State) (inp : Inputs) :
    (freeRun s inp).dqi = sampleDq s.cfg.width inp.dqIn := rfl
@[simp] theorem freeRun_sr (s : State) (inp : Inputs) :
    (freeRun s inp).sr = if evenPhase s.phase then shiftedSr s else s.sr := rfl
@[simp] theorem freeRun_caActive (s : State) (inp : Inputs) :
    (freeRun s inp).caActive = s.caActive := rfl
@[simp] theorem freeRun_cs (s : State) (inp : Inputs) :
    (freeRun s inp).cs = s.cs := rfl
@[simp] theorem freeRun_dqOe (s : State) (inp : Inputs) :
    (freeRun s inp).dqOe = s.dqOe := rfl
@[simp] theorem freeRun_rwdsOe (s : State) (inp : Inputs) :
    (freeRun s inp).rwdsOe = s.rwdsOe := rfl
@[simp] theorem freeRun_rwdsO (s : State) (inp : Inputs) :
    (freeRun s inp).rwdsO = s.rwdsO := rfl
@[simp] theorem freeRun_ack (s : State) (inp : Inputs) :
    (freeRun s inp).ack = s.ack := rfl
@[simp] theorem freeRun_c (s : State) (inp : Inputs) :
    (freeRun s inp).c = s.c := rfl
@[simp] theorem freeRun_stim (s : State) (inp : Inputs) :
    (freeRun s inp).stim = s.stim.tail := rfl
@[simp] theorem freeRun_cycle (s : State) (inp : Inputs) :
    (freeRun s inp).cycle = s.cycle + 1 := rfl

/-! ### actCa -/

@[simp] theorem actCa_cfg (x : CaWord) (s : State) : (actCa x s).cfg = s.cfg := rfl
@[simp] theorem actCa_phase (x : CaWord) (s : State) : (actCa x s).phase = s.phase := rfl
@[simp] theorem actCa_clk (x : CaWord) (s : State) : (actCa x s).clk = s.clk := rfl
@[simp] theorem actCa_dqi (x : CaWord) (s : State) : (actCa x s).dqi = s.dqi := rfl
@[simp] theorem actCa_sr (x : CaWord) (s : State) : (actCa x s).sr = x := rfl
@[simp] theorem actCa_caActive (x : CaWord) (s : State) : (actCa x s).caActive = true := rfl
@[simp] theorem actCa_cs (x : CaWord) (s : State) : (actCa x s).cs = true := rfl
@[simp] theorem actCa_dqOe (x : CaWord) (s : State) : (actCa x s).dqOe = true := rfl
@[simp] theorem actCa_rwdsOe (x : CaWord) (s : State) :
    (actCa x s).rwdsOe = s.rwdsOe := rfl
@[simp] theorem actCa_rwdsO (x : CaWord) (s : State) : (actCa x s).rwdsO = s.rwdsO := rfl
@[simp] theorem actCa_ack (x : CaWord) (s : State) : (actCa x s).ack = s.ack := rfl
@[simp] theorem actCa_c (x : CaWord) (s : State) : (actCa x s).c = s.c := rfl
@[simp] theorem actCa_stim (x : CaWord) (s : State) : (actCa x s).stim = s.stim := rfl
@[simp] theorem actCa_cycle (x : CaWord) (s : State) : (actCa x s).cycle = s.cycle := rfl

/-! ### actLatency -/

@[simp] theorem actLatency_cfg (s : State) : (actLatency s).cfg = s.cfg := rfl
@[simp] theorem actLatency_phase (s : State) : (actLatency s).phase = s.phase := rfl
@[simp] theorem actLatency_clk (s : State) : (actLatency s).clk = s.clk := rfl
@[simp] theorem actLatency_dqi (s : State) : (actLatency s).dqi = s.dqi := rfl
@[simp] theorem actLatency_sr (s : State) : (actLatency s).sr = s.sr := rfl
@[simp] theorem actLatency_caActive (s : State) : (actLatency s).caActive = false := rfl
@[simp] theorem actLatency_cs (s : State) : (actLatency s).cs = s.cs := rfl
@[simp] theorem actLatency_dqOe (s : State) : (actLatency s).dqOe = false := rfl
@[simp] theorem actLatency_rwdsOe (s : State) : (actLatency s).rwdsOe = s.rwdsOe := rfl
@[simp] theorem actLatency_rwdsO (s : State) : (actLatency s).rwdsO = s.rwdsO := rfl
@[simp] theorem actLatency_ack (s : State) : (actLatency s).ack = s.ack := rfl
@[simp] theorem actLatency_c (s : State) : (actLatency s).c = s.c := rfl
@[simp] theorem actLatency_stim (s : State) : (actLatency s).stim = s.stim := rfl
@[simp] theorem actLatency_cycle (s : State) : (actLatency s).cycle = s.cycle := rfl

/-! ### actData0 -/

@[simp] theorem actData0_cfg (m : RwdsLines) (r : Request) (s : State) :
    (actData0 m r s).cfg = s.cfg := by
  unfold actData0; cases h : r.we <;> simp
@[simp] theorem actData0_phase (m : RwdsLines) (r : Request) (s : State) :
    (actData0 m r s).phase = s.phase := by
  unfold actData0; cases h : r.we <;> simp
@[simp] theorem actData0_clk (m : RwdsLines) (r : Request) (s : State) :
    (actData0 m r s).clk = s.clk := by
  unfold actData0; cases h : r.we <;> simp
@[simp] theorem actData0_dqi (m : RwdsLines) (r : Request) (s : State) :
    (actData0 m r s).dqi = s.dqi := by
  unfold actData0; cases h : r.we <;> simp
@[simp] theorem actData0_sr (m : RwdsLines) (r : Request) (s : State) :
    (actData0 m r s).sr = if r.we then payloadWord r.datW else s.sr := by
  unfold actData0; cases h : r.we <;> simp
@[simp] theorem actData0_caActive (m : RwdsLines) (r : Request) (s : State) :
    (actData0 m r s).caActive = s.caActive := by
  unfold actData0; cases h : r.we <;> simp
@[simp] theorem actData0_cs (m : RwdsLines) (r : Request) (s : State) :
    (actData0 m r s).cs = s.cs := by
  unfold actData0; cases h : r.we <;> simp
@[simp] theorem actData0_dqOe (m : RwdsLines) (r : Request) (s : State) :
    (actData0 m r s).dqOe = r.we := by
  unfold actData0; cases h : r.we <;> simp
@[simp] theorem actData0_rwdsOe (m : RwdsLines) (r : Request) (s : State) :
    (actData0 m r s).rwdsOe = r.we := by
  unfold actData0; cases h : r.we <;> simp
@[simp] theorem actData0_rwdsO (m : RwdsLines) (r : Request) (s : State) :
    (actData0 m r s).rwdsO = if r.we then m else s.rwdsO := by
  unfold actData0; cases h : r.we <;> simp
@[simp] theorem actData0_ack (m : RwdsLines) (r : Request) (s : State) :
    (actData0 m r s).ack = s.ack := by
  unfold actData0; cases h : r.we <;> simp
@[simp] theorem actData0_c (m : RwdsLines) (r : Request) (s : State) :
    (actData0 m r s).c = s.c := by
  unfold actData0; cases h : r.we <;> simp
@[simp] theorem actData0_stim (m : RwdsLines) (r : Request) (s : State) :
    (actData0 m r s).stim = s.stim := by
  unfold actData0; cases h : r.we <;> simp
@[simp] theorem actData0_cycle (m : RwdsLines) (r : Request) (s : State) :
    (actData0 m r s).cycle = s.cycle := by
  unfold actData0; cases h : r.we <;> simp

/-! ### actMask -/

@[simp] theorem actMask_cfg (m : RwdsLines) (r : Request) (s : State) :
    (actMask m r s).cfg = s.cfg := by
  unfold actMask; cases h : r.we <;> simp
@[simp] theorem actMask_phase (m : RwdsLines) (r : Request) (s : State) :
    (actMask m r s).phase = s.phase := by
  unfold actMask; cases h : r.we <;> simp
@[simp] theorem actMask_clk (m : RwdsLines) (r : Request) (s : State) :
    (actMask m r s).clk = s.clk := by
  unfold actMask; cases h : r.we <;> simp
@[simp] theorem actMask_dqi (m : RwdsLines) (r : Request) (s : State) :
    (actMask m r s).dqi = s.dqi := by
  unfold actMask; cases h : r.we <;> simp
@[simp] theorem actMask_sr (m : RwdsLines) (r : Request) (s : State) :
    (actMask m r s).sr = s.sr := by
  unfold actMask; cases h : r.we <;> simp
@[simp] theorem actMask_caActive (m : RwdsLines) (r : Request) (s : State) :
    (actMask m r s).caActive = s.caActive := by
  unfold actMask; cases h : r.we <;> simp
@[simp] theorem actMask_cs (m : RwdsLines) (r : Request) (s : State) :
    (actMask m r s).cs = s.cs := by
  unfold actMask; cases h : r.we <;> simp
@[simp] theorem actMask_dqOe (m : RwdsLines) (r : Request) (s : State) :
    (actMask m r s).dqOe = s.dqOe := by
  unfold actMask; cases h : r.we <;> simp
@[simp] theorem actMask_rwdsOe (m : RwdsLines) (r : Request) (s : State) :
    (actMask m r s).rwdsOe = s.rwdsOe := by
  unfold actMask; cases h : r.we <;> simp
@[simp] theorem actMask_rwdsO (m : RwdsLines) (r : Request) (s : State) :
    (actMask m r s).rwdsO = if r.we then m else s.rwdsO := by
  unfold actMask; cases h : r.we <;> simp
@[simp] theorem actMask_ack (m : RwdsLines) (r : Request) (s : State) :
    (actMask m r s).ack = s.ack := by
  unfold actMask; cases h : r.we <;> simp
@[simp] theorem actMask_c (m : RwdsLines) (r : Request) (s : State) :
    (actMask m r s).c = s.c := by
  unfold actMask; cases h : r.we <;> simp
@[simp] theorem actMask_stim (m : RwdsLines) (r : Request) (s : State) :
    (actMask m r s).stim = s.stim := by
  unfold actMask; cases h : r.we <;> simp
@[simp] theorem actMask_cycle (m : RwdsLines) (r : Request) (s : State) :
    (actMask m r s).cycle = s.cycle := by
  unfold actMask; cases h : r.we <;> simp

/-! ### actTeardown -/

@[simp] theorem actTeardown_cfg (s : State) : (actTeardown s).cfg = s.cfg := rfl
@[simp] theorem actTeardown_phase (s : State) : (actTeardown s).phase = s.phase := rfl
@[simp] theorem actTeardown_clk (s : State) : (actTeardown s).clk = s.clk := rfl
@[simp] theorem actTeardown_dqi (s : State) : (actTeardown s).dqi = s.dqi := rfl
@[simp] theorem actTeardown_sr (s : State) : (actTeardown s).sr = s.sr := rfl
@[simp] theorem actTeardown_caActive (s : State) : (actTeardown s).caActive = s.caActive := rfl
@[simp] theorem actTeardown_cs (s : State) : (actTeardown s).cs = false := rfl
@[simp] theorem actTeardown_dqOe (s : State) : (actTeardown s).dqOe = false := rfl
@[simp] theorem actTeardown_rwdsOe (s : State) : (actTeardown s).rwdsOe = false := rfl
@[simp] theorem actTeardown_rwdsO (s : State) : (actTeardown s).rwdsO = s.rwdsO := rfl
@[simp] theorem actTeardown_ack (s : State) : (actTeardown s).ack = s.ack := rfl
@[simp] theorem actTeardown_c (s : State) : (actTeardown s).c = s.c := rfl
@[simp] theorem actTeardown_stim (s : State) : (actTeardown s).stim = s.stim := rfl
@[simp] theorem actTeardown_cycle (s : State) : (actTeardown s).cycle = s.cycle := rfl

/-! ### actAck -/

@[simp] theorem actAck_cfg (s : State) : (actAck s).cfg = s.cfg := rfl
@[simp] theorem actAck_phase (s : State) : (actAck s).phase = s.phase := rfl
@[simp] theorem actAck_clk (s : State) : (actAck s).clk = s.clk := rfl
@[simp] theorem actAck_dqi (s : State) : (actAck s).dqi = s.dqi := rfl
@[simp] theorem actAck_sr (s : State) : (actAck s).sr = s.sr := rfl
@[simp] theorem actAck_caActive (s : State) : (actAck s).caActive = s.caActive := rfl
@[simp] theorem actAck_cs (s : State) : (actAck s).cs = s.cs := rfl
@[simp] theorem actAck_dqOe (s : State) : (actAck s).dqOe = s.dqOe := rfl
@[simp] theorem actAck_rwdsOe (s : State) : (actAck s).rwdsOe = s.rwdsOe := rfl
@[simp] theorem actAck_rwdsO (s : State) : (actAck s).rwdsO = s.rwdsO := rfl
@[simp] theorem actAck_ack (s : State) : (actAck s).ack = true := rfl
@[simp] theorem actAck_c (s : State) : (actAck s).c = s.c := rfl
@[simp] theorem actAck_stim (s : State) : (actAck s).stim = s.stim := rfl
@[simp] theorem actAck_cycle (s : State) : (actAck s).cycle = s.cycle := rfl

/-! ### actAckClr -/

@[simp] theorem actAckClr_cfg (s : State) : (actAckClr s).cfg = s.cfg := rfl
@[simp] theorem actAckClr_phase (s : State) : (actAckClr s).phase = s.phase := rfl
@[simp] theorem actAckClr_clk (s : State) : (actAckClr s).clk = s.clk := rfl
@[simp] theorem actAckClr_dqi (s : State) : (actAckClr s).dqi = s.dqi := rfl
@[simp] theorem actAckClr_sr (s : State) : (actAckClr s).sr = s.sr := rfl
@[simp] theorem actAckClr_caActive (s : State) : (actAckClr s).caActive = s.caActive := rfl
@[simp] theorem actAckClr_cs (s : State) : (actAckClr s).cs = s.cs := rfl
@[simp] theorem actAckClr_dqOe (s : State) : (actAckClr s).dqOe = s.dqOe := rfl
@[simp] theorem actAckClr_rwdsOe (s : State) : (actAckClr s).rwdsOe = s.rwdsOe := rfl
@[simp] theorem actAckClr_rwdsO (s : State) : (actAckClr s).rwdsO = s.rwdsO := rfl
@[simp] theorem actAckClr_ack (s : State) : (actAckClr s).ack = false := rfl
@[simp] theorem actAckClr_c (s : State) : (actAckClr s).c = s.c := rfl
@[simp] theorem actAckClr_stim (s : State) : (actAckClr s).stim = s.stim := rfl
@[simp] theorem actAckClr_cycle (s : State) : (actAckClr s).cycle = s.cycle := rfl

/-! ### runningCycle -/

@[simp] theorem runningCycle_cfg (act : State → State) (s : State) (inp : Inputs) :
    (runningCycle act s inp).cfg = (act (freeRun s inp)).cfg := rfl
@[simp] theorem runningCycle_phase (act : State → State) (s : State) (inp : Inputs) :
    (runningCycle act s inp).phase = (act (freeRun s inp)).phase := rfl
@[simp] theorem runningCycle_clk (act : State → State) (s : State) (inp : Inputs) :
    (runningCycle act s inp).clk = (act (freeRun s inp)).clk := rfl
@[simp] theorem runningCycle_dqi (act : State → State) (s : State) (inp : Inputs) :
    (runningCycle act s inp).dqi = (act (freeRun s inp)).dqi := rfl
@[simp] theorem runningCycle_sr (act : State → State) (s : State) (inp : Inputs) :
    (runningCycle act s inp).sr = (act (freeRun s inp)).sr := rfl
@[simp] theorem runningCycle_caActive (act : State → State) (s : State) (inp : Inputs) :
    (runningCycle act s inp).caActive = (act (freeRun s inp)).caActive := rfl
@[simp] theorem runningCycle_cs (act : State → State) (s : State) (inp : Inputs) :
    (runningCycle act s inp).cs = (act (freeRun s inp)).cs := rfl
@[simp] theorem runningCycle_dqOe (act : State → State) (s : State) (inp : Inputs) :
    (runningCycle act s inp).dqOe = (act (freeRun s inp)).dqOe := rfl
@[simp] theorem runningCycle_rwdsOe (act : State → State) (s : State) (inp : Inputs) :
    (runningCycle act s inp).rwdsOe = (act (freeRun s inp)).rwdsOe := rfl
@[simp] theorem runningCycle_rwdsO (act : State → State) (s : State) (inp : Inputs) :
    (runningCycle act s inp).rwdsO = (act (freeRun s inp)).rwdsO := rfl
@[simp] theorem runningCycle_ack (act : State → State) (s : State) (inp : Inputs) :
    (runningCycle act s inp).ack = (act (freeRun s inp)).ack := rfl
@[simp] theorem runningCycle_c (act : State → State) (s : State) (inp : Inputs) :
    (runningCycle act s inp).c = nextCount s.cfg s.c := rfl
@[simp] theorem runningCycle_stim (act : State → State) (s : State) (inp : Inputs) :
    (runningCycle act s inp).stim = (act (freeRun s inp)).stim := rfl
@[simp] theorem runningCycle_cycle (act : State → State) (s : State) (inp : Inputs) :
    (runningCycle act s inp).cycle = (act (freeRun s inp)).cycle := rfl

/-! ### presentRequest -/

@[simp] theorem presentRequest_cfg (s : State) (r : Request) :
    (presentRequest s r).cfg = s.cfg := rfl
@[simp] theorem presentRequest_phase (s : State) (r : Request) :
    (presentRequest s r).phase = s.phase := rfl
@[simp] theorem presentRequest_clk (s : State) (r : Request) :
    (presentRequest s r).clk = s.clk := rfl
@[simp] theorem presentRequest_dqi (s : State) (r : Request) :
    (presentRequest s r).dqi = s.dqi := rfl
@[simp] theorem presentRequest_sr (s : State) (r : Request) :
    (presentRequest s r).sr = s.sr := rfl
@[simp] theorem presentRequest_caActive (s : State) (r : Request) :
    (presentRequest s r).caActive = s.caActive := rfl
@[simp] theorem presentRequest_cs (s : State) (r : Request) :
    (presentRequest s r).cs = s.cs := rfl
@[simp] theorem presentRequest_dqOe (s : State) (r : Request) :
    (presentRequest s r).dqOe = s.dqOe := rfl
@[simp] theorem presentRequest_rwdsOe (s : State) (r : Request) :
    (presentRequest s r).rwdsOe = s.rwdsOe := rfl
@[simp] theorem presentRequest_rwdsO (s : State) (r : Request) :
    (presentRequest s r).rwdsO = s.rwdsO := rfl
@[simp] theorem presentRequest_ack (s : State) (r : Request) :
    (presentRequest s r).ack = s.ack := rfl
@[simp] theorem presentRequest_c (s : State) (r : Request) :
    (presentRequest s r).c = s.c := rfl
@[simp] theorem presentRequest_stim (s : State) (r : Request) :
    (presentRequest s r).stim = ⟨false, r, 0, 0⟩ :: s.stim.tail := rfl
@[simp] theorem presentRequest_cycle (s : State) (r : Request) :
    (presentRequest s r).cycle = s.cycle := rfl

/-! ### The reset state -/

@[simp] theorem resetOf_cfg (cfg : Config) : (State.resetOf cfg).cfg = cfg := rfl
@[simp] theorem resetOf_phase (cfg : Config) : (State.resetOf cfg).phase = 0 := rfl
@[simp] theorem resetOf_clk (cfg : Config) : (State.resetOf cfg).clk = false := rfl
@[simp] theorem resetOf_dqi (cfg : Config) : (State.resetOf cfg).dqi = 0 := rfl
@[simp] theorem resetOf_sr (cfg : Config) : (State.resetOf cfg).sr = 0 := rfl
@[simp] theorem resetOf_caActive (cfg : Config) : (State.resetOf cfg).caActive = false := rfl
@[simp] theorem resetOf_cs (cfg : Config) : (State.resetOf cfg).cs = false := rfl
@[simp] theorem resetOf_dqOe (cfg : Config) : (State.resetOf cfg).dqOe = false := rfl
@[simp] theorem resetOf_rwdsOe (cfg : Config) : (State.resetOf cfg).rwdsOe = false := rfl
@[simp] theorem resetOf_rwdsO (cfg : Config) : (State.resetOf cfg).rwdsO = 0 := rfl
@[simp] theorem resetOf_ack (cfg : Config) : (State.resetOf cfg).ack = false := rfl
@[simp] theorem resetOf_c (cfg : Config) : (State.resetOf cfg).c = 0 := rfl
@[simp] theorem resetOf_stim (cfg : Config) : (State.resetOf cfg).stim = [] := rfl
@[simp] theorem resetOf_cycle (cfg : Config) : (State.resetOf cfg).cycle = 0 := rfl

/-! ### The inputs -/

theorem inp_def (s : State) : s.inp = s.inputAt 0 := rfl

/-- The inputs of a later cycle are those the earlier state was given for it. -/
theorem inputAt_of_next (s t : State) (hs : t.stim = s.stim.tail) (hc : t.cycle = s.cycle + 1) (k : Nat) :
    t.inputAt k = s.inputAt (k + 1) := by
  have hk : s.cycle + 1 + k = s.cycle + (k + 1) := by omega
  simp [State.inputAt, hs, hc, hk]

end Sys2Proof.Machine
end

