-- ==== Sys2Proof/Laws/Ops.lean ====
section
/-! SUPPORT. What each shared operation can do, once: the action of each offset, the cycle, the step's
arithmetic. The provers cite these instead of unfolding the operations. -/

namespace Sys2Proof.Machine

/-! ### The derived constants -/

theorem dataStart_eq (cfg : Config) : dataStart cfg = 19 + 8 * cfg.latencyPred := by
  unfold dataStart latency; omega

theorem teardownAt_eq (cfg : Config) : teardownAt cfg = dataStart cfg + dataLen cfg.width := rfl

theorem timelineEnd_eq (cfg : Config) : timelineEnd cfg = dataStart cfg + dataLen cfg.width + 4 := by
  unfold timelineEnd dataStart; omega

theorem dataLen_cases (w : Width) : (w = .w8 ∧ dataLen w = 8) ∨ (w = .w16 ∧ dataLen w = 4) := by
  cases w <;> simp [dataLen]

/-! ### The actions, one offset at a time -/

theorem actionAt_ca (cfg : Config) (inp : Inputs) (nx : State) :
    actionAt cfg inp 3 nx = actCa (caWord cfg.width inp.req.adr inp.req.we) nx := rfl

theorem actionAt_latency (cfg : Config) (inp : Inputs) (nx : State) :
    actionAt cfg inp 15 nx = actLatency nx := rfl

theorem actionAt_data0_w8 (cfg : Config) (inp : Inputs) (nx : State) (hw : cfg.width = .w8) :
    actionAt cfg inp (dataStart cfg) nx = actData0 (maskW8 inp.req.sel 0) inp.req nx := by
  have := dataStart_eq cfg
  unfold actionAt
  rw [if_neg (by omega), if_neg (by omega), if_pos rfl, hw]

theorem actionAt_data0_w16 (cfg : Config) (inp : Inputs) (nx : State) (hw : cfg.width = .w16) :
    actionAt cfg inp (dataStart cfg) nx = actData0 (maskW16 inp.req.sel 0) inp.req nx := by
  have := dataStart_eq cfg
  unfold actionAt
  rw [if_neg (by omega), if_neg (by omega), if_pos rfl, hw]

theorem actionAt_mask_w8 (cfg : Config) (inp : Inputs) (nx : State) (hw : cfg.width = .w8) (k : Fin 4)
    (hk : k ≠ 0) :
    actionAt cfg inp (dataStart cfg + 2 * k.val) nx = actMask (maskW8 inp.req.sel k) inp.req nx := by
  have := dataStart_eq cfg
  match k, hk with
  | 1, _ =>
    show actionAt cfg inp (dataStart cfg + 2) nx = _
    unfold actionAt
    rw [if_neg (by omega), if_neg (by omega), if_neg (by omega), if_pos ⟨hw, rfl⟩]
  | 2, _ =>
    show actionAt cfg inp (dataStart cfg + 4) nx = _
    unfold actionAt
    rw [if_neg (by omega), if_neg (by omega), if_neg (by omega), if_neg (by omega), if_pos ⟨hw, rfl⟩]
  | 3, _ =>
    show actionAt cfg inp (dataStart cfg + 6) nx = _
    unfold actionAt
    rw [if_neg (by omega), if_neg (by omega), if_neg (by omega), if_neg (by omega), if_neg (by omega),
      if_pos ⟨hw, rfl⟩]

theorem actionAt_mask_w16 (cfg : Config) (inp : Inputs) (nx : State) (hw : cfg.width = .w16) :
    actionAt cfg inp (dataStart cfg + 2) nx = actMask (maskW16 inp.req.sel 1) inp.req nx := by
  have := dataStart_eq cfg
  unfold actionAt
  rw [if_neg (by omega), if_neg (by omega), if_neg (by omega), if_neg (by simp [hw]),
    if_neg (by simp [hw]), if_neg (by simp [hw]), if_pos ⟨hw, rfl⟩]

/-- From the teardown offset on, the earlier offsets are past. -/
theorem actionAt_late (cfg : Config) (inp : Inputs) (nx : State) (j : Nat) :
    actionAt cfg inp (teardownAt cfg + j) nx =
      if j = 0 then actTeardown nx else if j = 2 then actAck nx else if j = 3 then actAckClr nx
      else nx := by
  have hs := dataStart_eq cfg
  unfold teardownAt actionAt
  rcases dataLen_cases cfg.width with ⟨hw, hd⟩ | ⟨hw, hd⟩ <;> rw [hd, hw]
  · simp only [true_and, reduceCtorEq, false_and, if_false]
    rw [if_neg (by omega), if_neg (by omega), if_neg (by omega), if_neg (by omega), if_neg (by omega),
      if_neg (by omega)]
    simp only [Nat.add_eq_left, Nat.add_assoc, Nat.add_left_cancel_iff]
  · simp only [true_and, reduceCtorEq, false_and, if_false]
    rw [if_neg (by omega), if_neg (by omega), if_neg (by omega), if_neg (by omega)]
    simp only [Nat.add_eq_left, Nat.add_assoc, Nat.add_left_cancel_iff]

/-- An offset with no entry (R100, R103). -/
theorem actionAt_none (cfg : Config) (inp : Inputs) (k : Nat) (nx : State) (h3 : k ≠ 3) (h15 : k ≠ 15)
    (hs : k ≠ dataStart cfg) (h2 : k ≠ dataStart cfg + 2) (h4 : k ≠ dataStart cfg + 4)
    (h6 : k ≠ dataStart cfg + 6) (ht : k ≠ dataStart cfg + dataLen cfg.width)
    (ha : k ≠ dataStart cfg + dataLen cfg.width + 2) (hc : k ≠ dataStart cfg + dataLen cfg.width + 3) :
    actionAt cfg inp k nx = nx := by
  unfold actionAt
  rw [if_neg h3, if_neg h15, if_neg hs, if_neg (fun h => h2 h.2), if_neg (fun h => h4 h.2),
    if_neg (fun h => h6 h.2), if_neg (fun h => h2 h.2), if_neg ht, if_neg ha, if_neg hc]

/-- Between the CA, latency and data offsets nothing is done (R103). -/
theorem actionAt_gap (cfg : Config) (inp : Inputs) (nx : State) (k : Nat) (h3 : k ≠ 3) (h15 : k ≠ 15)
    (hk : k < dataStart cfg) : actionAt cfg inp k nx = nx :=
  actionAt_none cfg inp k nx h3 h15 (by omega) (by omega) (by omega) (by omega) (by omega) (by omega)
    (by omega)

/-- The offsets of the data phase: sub-step 0, a later sub-step, or nothing. -/
theorem actionAt_data (cfg : Config) (inp : Inputs) (k : Nat) (nx : State) (hlo : dataStart cfg ≤ k)
    (hhi : k < teardownAt cfg) :
    (k = dataStart cfg ∧ ∃ m, (cfg.width = .w8 → m.toNat < 2) ∧
      actionAt cfg inp k nx = actData0 m inp.req nx) ∨
    (dataStart cfg < k ∧ k < teardownAt cfg ∧ ∃ m, (cfg.width = .w8 → m.toNat < 2) ∧
      actionAt cfg inp k nx = actMask m inp.req nx) ∨
    (k ≠ dataStart cfg ∧ actionAt cfg inp k nx = nx) := by
  have hm : ∀ j, (maskW8 inp.req.sel j).toNat < 2 := fun j => by
    unfold maskW8; cases inp.req.sel.getLsbD j.val <;> decide
  have hs := dataStart_eq cfg
  have hd := teardownAt_eq cfg
  obtain ⟨j, rfl⟩ := Nat.exists_eq_add_of_le hlo
  rcases dataLen_cases cfg.width with ⟨hw, hl⟩ | ⟨hw, hl⟩
  · have hj : j < 8 := by omega
    interval_cases j
    · exact .inl ⟨rfl, _, fun _ => hm 0, actionAt_data0_w8 cfg inp nx hw⟩
    · exact .inr (.inr ⟨by omega, actionAt_none cfg inp _ nx (by omega) (by omega) (by omega) (by omega) (by omega) (by omega)
        (by omega) (by omega) (by omega)⟩)
    · exact .inr (.inl ⟨by omega, hhi, _, fun _ => hm 1, actionAt_mask_w8 cfg inp nx hw 1 (by decide)⟩)
    · exact .inr (.inr ⟨by omega, actionAt_none cfg inp _ nx (by omega) (by omega) (by omega) (by omega) (by omega) (by omega)
        (by omega) (by omega) (by omega)⟩)
    · exact .inr (.inl ⟨by omega, hhi, _, fun _ => hm 2, actionAt_mask_w8 cfg inp nx hw 2 (by decide)⟩)
    · exact .inr (.inr ⟨by omega, actionAt_none cfg inp _ nx (by omega) (by omega) (by omega) (by omega) (by omega) (by omega)
        (by omega) (by omega) (by omega)⟩)
    · exact .inr (.inl ⟨by omega, hhi, _, fun _ => hm 3, actionAt_mask_w8 cfg inp nx hw 3 (by decide)⟩)
    · exact .inr (.inr ⟨by omega, actionAt_none cfg inp _ nx (by omega) (by omega) (by omega) (by omega) (by omega) (by omega)
        (by omega) (by omega) (by omega)⟩)
  · have hj : j < 4 := by omega
    have hnw : cfg.width ≠ .w8 := by rw [hw]; decide
    interval_cases j
    · exact .inl ⟨rfl, _, fun h => absurd h hnw, actionAt_data0_w16 cfg inp nx hw⟩
    · exact .inr (.inr ⟨by omega, actionAt_none cfg inp _ nx (by omega) (by omega) (by omega) (by omega) (by omega) (by omega)
        (by omega) (by omega) (by omega)⟩)
    · exact .inr (.inl ⟨by omega, hhi, _, fun h => absurd h hnw, actionAt_mask_w16 cfg inp nx hw⟩)
    · exact .inr (.inr ⟨by omega, actionAt_none cfg inp _ nx (by omega) (by omega) (by omega) (by omega) (by omega) (by omega)
        (by omega) (by omega) (by omega)⟩)

/-- Everything an action can do: one of the seven action sets, or nothing. -/
theorem actionAt_cases (cfg : Config) (inp : Inputs) (k : Nat) (nx : State) :
    (k = 3 ∧ actionAt cfg inp k nx = actCa (caWord cfg.width inp.req.adr inp.req.we) nx) ∨
    (k = 15 ∧ actionAt cfg inp k nx = actLatency nx) ∨
    (k = dataStart cfg ∧ ∃ m, (cfg.width = .w8 → m.toNat < 2) ∧
      actionAt cfg inp k nx = actData0 m inp.req nx) ∨
    (dataStart cfg < k ∧ k < teardownAt cfg ∧ ∃ m, (cfg.width = .w8 → m.toNat < 2) ∧
      actionAt cfg inp k nx = actMask m inp.req nx) ∨
    (k = teardownAt cfg ∧ actionAt cfg inp k nx = actTeardown nx) ∨
    (k = teardownAt cfg + 2 ∧ actionAt cfg inp k nx = actAck nx) ∨
    (k = teardownAt cfg + 3 ∧ actionAt cfg inp k nx = actAckClr nx) ∨
    (k ≠ 3 ∧ k ≠ 15 ∧ k ≠ dataStart cfg ∧ k ≠ teardownAt cfg ∧ k ≠ teardownAt cfg + 2 ∧
      k ≠ teardownAt cfg + 3 ∧ actionAt cfg inp k nx = nx) := by
  have hs := dataStart_eq cfg
  by_cases h3 : k = 3
  · subst h3; exact .inl ⟨rfl, rfl⟩
  by_cases h15 : k = 15
  · subst h15; exact .inr (.inl ⟨rfl, rfl⟩)
  by_cases hlt : k < dataStart cfg
  · have hd := teardownAt_eq cfg
    exact .inr (.inr (.inr (.inr (.inr (.inr (.inr ⟨h3, h15, by omega, by omega, by omega, by omega,
      actionAt_gap cfg inp nx k h3 h15 hlt⟩))))))
  by_cases hge : teardownAt cfg ≤ k
  · obtain ⟨j, rfl⟩ := Nat.exists_eq_add_of_le hge
    have hl := actionAt_late cfg inp nx j
    have hd := teardownAt_eq cfg
    have hpos : 0 < dataLen cfg.width := by rcases dataLen_cases cfg.width with ⟨_, h⟩ | ⟨_, h⟩ <;> omega
    by_cases h0 : j = 0
    · exact .inr (.inr (.inr (.inr (.inl ⟨by omega, by rw [hl, if_pos h0]⟩))))
    by_cases h2 : j = 2
    · exact .inr (.inr (.inr (.inr (.inr (.inl ⟨by omega, by rw [hl, if_neg h0, if_pos h2]⟩)))))
    by_cases h3' : j = 3
    · exact .inr (.inr (.inr (.inr (.inr (.inr (.inl
        ⟨by omega, by rw [hl, if_neg h0, if_neg h2, if_pos h3']⟩))))))
    exact .inr (.inr (.inr (.inr (.inr (.inr (.inr ⟨h3, h15, by omega, by omega, by omega, by omega,
      by rw [hl, if_neg h0, if_neg h2, if_neg h3']⟩))))))
  exact (actionAt_data cfg inp k nx (by omega) (by omega)).elim (fun h => .inr (.inr (.inl h)))
    (fun h => .inr (.inr (.inr (h.elim .inl fun h' => .inr (.inr (.inr (.inr ⟨h3, h15, h'.1, by omega,
      by have := teardownAt_eq cfg; omega, by omega, h'.2⟩)))))))

/-! ### One cycle -/

/-- Everything a cycle with `rst = 0` can do (R128). -/
theorem tick_cases (s : State) (inp : Inputs) :
    (s.c = 0 ∧ triggers s inp = true ∧ tick s inp = { freeRun s inp with c := 1 }) ∨
    (s.c = 0 ∧ triggers s inp = false ∧ tick s inp = { freeRun s inp with c := 0 }) ∨
    (s.c ≠ 0 ∧ tick s inp = runningCycle (actionAt s.cfg inp s.c) s inp) := by
  unfold tick
  by_cases hc : s.c = 0
  · cases ht : triggers s inp <;> simp [hc]
  · simp [hc]

theorem actionAt_cfg (cfg : Config) (inp : Inputs) (k : Nat) (nx : State) :
    (actionAt cfg inp k nx).cfg = nx.cfg := by
  rcases actionAt_cases cfg inp k nx with ⟨_, h⟩ | ⟨_, h⟩ | ⟨_, _, _, h⟩ | ⟨_, _, _, _, h⟩ | ⟨_, h⟩ |
    ⟨_, h⟩ | ⟨_, h⟩ | ⟨_, _, _, _, _, _, h⟩ <;> rw [h] <;> simp

/-- No action touches the Phase Generator, the staging register or the environment (R129). -/
theorem actionAt_frame (cfg : Config) (inp : Inputs) (k : Nat) (nx : State) :
    (actionAt cfg inp k nx).phase = nx.phase ∧ (actionAt cfg inp k nx).clk = nx.clk ∧
    (actionAt cfg inp k nx).dqi = nx.dqi ∧ (actionAt cfg inp k nx).stim = nx.stim ∧
    (actionAt cfg inp k nx).cycle = nx.cycle := by
  rcases actionAt_cases cfg inp k nx with ⟨_, h⟩ | ⟨_, h⟩ | ⟨_, _, _, h⟩ | ⟨_, _, _, _, h⟩ | ⟨_, h⟩ |
    ⟨_, h⟩ | ⟨_, h⟩ | ⟨_, _, _, _, _, _, h⟩ <;> rw [h] <;> simp

/-- The parameters, the phase, the clock and the sample of a cycle do not depend on the sequencer. -/
theorem tick_free (s : State) (inp : Inputs) :
    (tick s inp).cfg = s.cfg ∧ (tick s inp).phase = s.phase + 1 ∧ (tick s inp).clk = nextClk s ∧
    (tick s inp).dqi = sampleDq s.cfg.width inp.dqIn ∧ (tick s inp).stim = s.stim.tail ∧
    (tick s inp).cycle = s.cycle + 1 := by
  have hf := actionAt_frame s.cfg inp s.c (freeRun s inp)
  have hc := actionAt_cfg s.cfg inp s.c (freeRun s inp)
  rcases tick_cases s inp with ⟨_, _, h⟩ | ⟨_, _, h⟩ | ⟨_, h⟩ <;> rw [h] <;> simp_all

/-! ### The wires -/

/-- Concatenation, in arithmetic. -/
theorem toNat_concat {m n : Nat} (a : BitVec m) (b : BitVec n) :
    (a ++ b).toNat = a.toNat * 2 ^ n + b.toNat := by
  rw [BitVec.toNat_append, ← Nat.shiftLeft_add_eq_or_of_lt b.isLt, Nat.shiftLeft_eq]

theorem sampleDq_toNat (w : Width) (dq : DqLines) :
    (sampleDq w dq).toNat = dq.toNat % 2 ^ widthBits w := by
  cases w
  · exact (toNat_concat (0#8) (dq.extractLsb' 0 8)).trans (by simp [widthBits])
  · exact (Nat.mod_eq_of_lt dq.isLt).symm

theorem shift8_toNat (sr : CaWord) (dqi : DqLines) :
    (shift8 sr dqi).toNat = (sr.toNat * 2 ^ 8 + dqi.toNat % 2 ^ 8) % 2 ^ 48 := by
  refine (toNat_concat (sr.extractLsb' 0 40) (dqi.extractLsb' 0 8)).trans ?_
  simp only [BitVec.extractLsb'_toNat, Nat.shiftRight_zero]
  omega

theorem shift16_toNat (sr : CaWord) (dqi : DqLines) :
    (shift16 sr dqi).toNat = (sr.toNat * 2 ^ 16 + dqi.toNat) % 2 ^ 48 := by
  have := dqi.isLt
  refine (toNat_concat (sr.extractLsb' 0 32) dqi).trans ?_
  simp only [BitVec.extractLsb'_toNat, Nat.shiftRight_zero]
  omega

end Sys2Proof.Machine
end

