-- ==== Sys2Proof/Laws/Step.lean ====
section
/-! SUPPORT. What a step can do, once, and how a run begins. -/

namespace Sys2Proof.Machine

/-- The BUSREQ word, in arithmetic. -/
theorem requestWord_toNat (r : Request) :
    (requestWord r).toNat =
      ((((r.sel.toNat * 2 ^ 32 + r.datW.toNat) * 2 ^ 32 + r.adr.toNat) * 2 + r.we.toNat) * 2 +
        r.stb.toNat) * 2 + r.cyc.toNat :=
  (toNat_concat (r.sel ++ r.datW ++ r.adr ++ BitVec.ofBool r.we ++ BitVec.ofBool r.stb)
    (BitVec.ofBool r.cyc)).trans (by simp only [toNat_concat, BitVec.toNat_ofBool, pow_one])

theorem getLsbD_eq_decide {n : Nat} (w : BitVec n) (i : Nat) :
    w.getLsbD i = decide (w.toNat / 2 ^ i % 2 = 1) := by
  rw [BitVec.getLsbD, Nat.testBit_eq_decide_div_mod_eq]

/-- The request lines survive the word that is fetched. -/
theorem wordRequest_requestWord (r : Request) : wordRequest (requestWord r) = r := by
  have hw := requestWord_toNat r
  obtain ⟨cyc, stb, we, adr, datW, sel⟩ := r
  have ha := adr.isLt
  have hd := datW.isLt
  have hs := sel.isLt
  have hc := Bool.toNat_lt cyc
  have ht := Bool.toNat_lt stb
  have he := Bool.toNat_lt we
  have hb : ∀ b : Bool, decide (b.toNat = 1) = b := by decide
  simp only at hw
  generalize requestWord _ = w at hw ⊢
  simp only [wordRequest, Request.mk.injEq, getLsbD_eq_decide]
  refine ⟨?_, ?_, ?_, ?_, ?_, ?_⟩
  · refine Eq.trans (decide_eq_decide.mpr ?_) (hb cyc); omega
  · refine Eq.trans (decide_eq_decide.mpr ?_) (hb stb); omega
  · refine Eq.trans (decide_eq_decide.mpr ?_) (hb we); omega
  · apply BitVec.eq_of_toNat_eq
    rw [BitVec.extractLsb'_toNat, Nat.shiftRight_eq_div_pow]; omega
  · apply BitVec.eq_of_toNat_eq
    rw [BitVec.extractLsb'_toNat, Nat.shiftRight_eq_div_pow]; omega
  · apply BitVec.eq_of_toNat_eq
    rw [BitVec.extractLsb'_toNat, Nat.shiftRight_eq_div_pow]; omega

/-- The meaning of a request's row is the cycle with that request on the bus. -/
theorem exec_requestInstr (r : Request) (s : State) : exec (requestInstr r) s = .next (busCycle r s) := by
  obtain ⟨cyc, stb, we, adr, datW, sel⟩ := r
  cases cyc <;> cases stb <;> cases we <;> rfl

/-- Everything a step can do: the system reset, or one cycle with the inputs as they are. -/
theorem step_eq (s : State) :
    step s = .next (if s.inp.rst then systemReset s else tick s s.inp) := by
  unfold step
  cases hr : s.inp.rst
  · have hi : ({ s.inp with rst := false, req := s.inp.req } : Inputs) = s.inp := by
      rw [← hr]
    simp only [decodeBusReq, fetchWord, wordRequest_requestWord, exec_requestInstr, busCycle, hi]
    simp
  · rfl

theorem step_of_no_reset (s : State) (h : s.inp.rst = false) : step s = .next (tick s s.inp) := by
  rw [step_eq, h]; rfl

theorem step_of_reset (s : State) (h : s.inp.rst = true) : step s = .next (systemReset s) := by
  rw [step_eq, h]; rfl

/-- The environment moves on by one cycle in every step. -/
theorem step_inputs (s t : State) (h : step s = .next t) :
    t.stim = s.stim.tail ∧ t.cycle = s.cycle + 1 ∧ t.cfg = s.cfg := by
  have hf := tick_free s s.inp
  rw [step_eq] at h
  cases hr : s.inp.rst <;> simp only [hr, if_true, if_false, Bool.false_eq_true, Host.Outcome.next.injEq] at h <;>
    subst h <;> simp_all

theorem run_zero (s : State) : Host.Core.run Sys2Proof.core 0 s = .next s := rfl

/-- A run of one cycle more begins with one step. -/
theorem run_succ (k : Nat) (s t : State) (h : step s = .next t) :
    Host.Core.run Sys2Proof.core (k + 1) s = Host.Core.run Sys2Proof.core k t := by
  have h' : Sys2Proof.core.step s = .next t := h
  simp only [Host.Core.run, h']

end Sys2Proof.Machine
end

