-- ==== Sys2Proof/Laws/Run.lean ====
section
/-! SUPPORT. Runs of many cycles: how they grow by a cycle, what inputs they see, and the induction along a
run without reset, done once. -/

namespace Sys2Proof.Machine

theorem reachesIn_zero (s : State) : ReachesIn 0 s s := rfl

/-- A run grows by one step at its end. -/
theorem reachesIn_succ (k : Nat) (s t u : State) (h : ReachesIn k s t) (hu : step t = .next u) :
    ReachesIn (k + 1) s u := by
  induction k generalizing s with
  | zero =>
    have hst : s = t := by
      have h' : Host.Outcome.next (ρ := Refusal) (φ := Fault) s = .next t := h
      exact Host.Outcome.next.inj h'
    subst hst
    exact (run_succ 0 _ _ hu).trans rfl
  | succ k ih =>
    have hs := step_eq s
    exact (run_succ (k + 1) s _ hs).trans (ih _ ((run_succ k s _ hs).symm.trans h))

/-- A state is reached in one way only. -/
theorem reachesIn_unique (k : Nat) (s t u : State) (ht : ReachesIn k s t) (hu : ReachesIn k s u) :
    t = u :=
  Host.Outcome.next.inj (ht.symm.trans hu)

/-- The inputs of a run's cycles are those the first state was given, and the parameters stay. -/
theorem reachesIn_inputs (j : Nat) (s t : State) (h : ReachesIn j s t) :
    t.cfg = s.cfg ∧ ∀ k, t.inputAt k = s.inputAt (j + k) := by
  induction j generalizing s with
  | zero =>
    have hst := reachesIn_unique 0 s t s h (reachesIn_zero s)
    subst hst
    exact ⟨rfl, fun k => by rw [Nat.zero_add]⟩
  | succ j ih =>
    have hs := step_eq s
    obtain ⟨h1, h2, h3⟩ := step_inputs s _ hs
    obtain ⟨hc, hi⟩ := ih _ ((run_succ j s _ hs).symm.trans h)
    refine ⟨hc.trans h3, fun k => ?_⟩
    rw [hi k, inputAt_of_next s _ h1 h2]
    congr 1
    omega

/-- Induction along a run with `rst = 0`: what holds at the start, and passes from each cycle to the next
through `tick` with the inputs of that cycle, holds in every cycle. -/
theorem reachesIn_induct (P : Nat → State → Prop) (n : Nat) (s : State) (hr : NoReset s n) (h0 : P 0 s)
    (hstep : ∀ j t, j < n → t.cfg = s.cfg → P j t → P (j + 1) (tick t (s.inputAt j))) :
    ∀ j, j ≤ n → ∃ t, ReachesIn j s t ∧ P j t := by
  intro j hj
  induction j with
  | zero => exact ⟨s, reachesIn_zero s, h0⟩
  | succ j ih =>
    obtain ⟨t, ht, hp⟩ := ih (by omega)
    obtain ⟨hc, hi⟩ := reachesIn_inputs j s t ht
    have hin : t.inp = s.inputAt j := hi 0
    have hs : step t = .next (tick t (s.inputAt j)) := by
      rw [step_of_no_reset t (by rw [hin]; exact hr j (by omega)), hin]
    exact ⟨_, reachesIn_succ j s t _ ht hs, hstep j t (by omega) hc hp⟩

end Sys2Proof.Machine
end

