-- ==== Sys2Proof/Laws/Cycle.lean ====
section
/-! SUPPORT. The operations of one cycle in arithmetic: the free-running components, the shift, the payload,
the masks and the CA words as numbers, and the cycle of an idle sequencer. -/

namespace Sys2Proof.Machine

theorem phase_succ (p : Phase) : (p + 1).toNat = (p.toNat + 1) % 4 := by
  rw [BitVec.toNat_add]; rfl

theorem phase_eq_one_iff (p : Phase) : p = 1 ↔ p.toNat = 1 :=
  ⟨fun h => by rw [h]; rfl, fun h => BitVec.eq_of_toNat_eq h⟩

theorem phase_eq_three_iff (p : Phase) : p = 3 ↔ p.toNat = 3 :=
  ⟨fun h => by rw [h]; rfl, fun h => BitVec.eq_of_toNat_eq h⟩

theorem evenPhase_eq (p : Phase) : evenPhase p = decide (p.toNat % 2 = 0) := by revert p; decide

/-- R76 with the phase as a number. -/
theorem nextClk_eq (s : State) :
    nextClk s = if s.phase.toNat = 1 then s.cs else if s.phase.toNat = 3 then false else s.clk := by
  simp only [nextClk, phase_eq_one_iff, phase_eq_three_iff]

/-- R93 with the registers as numbers. -/
theorem shiftedSr_toNat (s : State) :
    (shiftedSr s).toNat =
      (s.sr.toNat * 2 ^ shiftWidth s + s.dqi.toNat % 2 ^ shiftWidth s) % 2 ^ 48 := by
  unfold shiftedSr shiftWidth
  cases s.caActive <;> cases s.cfg.width <;>
    simp only [if_true, if_false, Bool.false_eq_true, widthBits, shift8_toNat, shift16_toNat]
  rw [Nat.mod_eq_of_lt s.dqi.isLt]

theorem freeRun_freeRuns (s : State) : FreeRuns s (freeRun s s.inp) := by
  simp [FreeRuns, nextClk_eq, sampleDq_toNat]

theorem freeRun_shiftsSr (s : State) (inp : Inputs) : ShiftsSr s (freeRun s inp) := by
  simp only [ShiftsSr, freeRun_sr, evenPhase_eq, decide_eq_true_eq]
  split
  · exact shiftedSr_toNat s
  · rfl

theorem payloadWord_toNat (d : BusWord) : (payloadWord d).toNat = d.toNat * 2 ^ 16 :=
  (toNat_concat d (0#16)).trans (by simp)

theorem maskW8_toNat (sel : SelMask) (k : Fin 4) :
    (maskW8 sel k).toNat = if sel.getLsbD k.val then 0 else 1 := by
  unfold maskW8; cases sel.getLsbD k.val <;> rfl

theorem maskW16_toNat (sel : SelMask) (k : Fin 2) :
    (maskW16 sel k).toNat = (if sel.getLsbD (2 * k.val) then 0 else 2) +
      if sel.getLsbD (2 * k.val + 1) then 0 else 1 := by
  unfold maskW16; cases sel.getLsbD (2 * k.val) <;> cases sel.getLsbD (2 * k.val + 1) <;> rfl

theorem caBitsW8_toNat (r : Bool) (a : BitVec 29) (b : BitVec 2) :
    (caBitsW8 r a b).toNat = r.toNat * 2 ^ 47 + 2 ^ 45 + a.toNat * 2 ^ 16 + b.toNat * 2 := by
  refine (toNat_concat _ (0#1)).trans ?_
  simp only [toNat_concat, BitVec.toNat_ofBool]; simp; omega

theorem caBitsW16_toNat (r : Bool) (a : BitVec 29) (b : BitVec 3) :
    (caBitsW16 r a b).toNat = r.toNat * 2 ^ 47 + 2 ^ 45 + a.toNat * 2 ^ 16 + b.toNat := by
  refine (toNat_concat _ b).trans ?_
  simp only [toNat_concat, BitVec.toNat_ofBool]; simp; omega

/-- The cycle of an idle sequencer with the request `r` on the bus (R99). -/
theorem busCycle_idle (r : Request) (s : State) (hc : s.c = 0) :
    busCycle r s =
      { freeRun s s.inp with c := if pending r && s.phase == 1 then 1 else 0 } := by
  unfold busCycle tick
  rw [if_pos hc]
  simp [triggers, hc]

end Sys2Proof.Machine
end

