-- ==== Sys2Proof/Laws/PerInstr.lean ====
section
/-! SUPPORT. What is said of every row of the table, one lemma per row: its code is of the format the table
lists it under. -/

namespace Sys2Proof

/-- The encoder answers a code of the row's own format. -/
def Laws.EncodedInFormat.Statement (i : Instr) : Prop :=
  ∀ cfg : Config, (encode cfg i).format = i.format

theorem Laws.EncodedInFormat.idleNoCyc (stb we : Bool) (adr : BusAddr) (d : BusWord) (sel : SelMask) :
    Laws.EncodedInFormat.Statement (.idleNoCyc stb we adr d sel) := fun _ => rfl
theorem Laws.EncodedInFormat.idleNoStb (we : Bool) (adr : BusAddr) (d : BusWord) (sel : SelMask) :
    Laws.EncodedInFormat.Statement (.idleNoStb we adr d sel) := fun _ => rfl
theorem Laws.EncodedInFormat.read (adr : BusAddr) (d : BusWord) (sel : SelMask) :
    Laws.EncodedInFormat.Statement (.read adr d sel) := fun _ => rfl
theorem Laws.EncodedInFormat.write (adr : BusAddr) (d : BusWord) (sel : SelMask) :
    Laws.EncodedInFormat.Statement (.write adr d sel) := fun _ => rfl
theorem Laws.EncodedInFormat.caReadW8 (a : BitVec 29) (b : BitVec 2) :
    Laws.EncodedInFormat.Statement (.caReadW8 a b) := fun _ => rfl
theorem Laws.EncodedInFormat.caWriteW8 (a : BitVec 29) (b : BitVec 2) :
    Laws.EncodedInFormat.Statement (.caWriteW8 a b) := fun _ => rfl
theorem Laws.EncodedInFormat.caReadW16 (a : BitVec 29) (b : BitVec 3) :
    Laws.EncodedInFormat.Statement (.caReadW16 a b) := fun _ => rfl
theorem Laws.EncodedInFormat.caWriteW16 (a : BitVec 29) (b : BitVec 3) :
    Laws.EncodedInFormat.Statement (.caWriteW16 a b) := fun _ => rfl
theorem Laws.EncodedInFormat.tlTrigger :
    Laws.EncodedInFormat.Statement (.tlTrigger) := fun _ => rfl
theorem Laws.EncodedInFormat.tlGap :
    Laws.EncodedInFormat.Statement (.tlGap) := fun _ => rfl
theorem Laws.EncodedInFormat.tlCa :
    Laws.EncodedInFormat.Statement (.tlCa) := fun _ => rfl
theorem Laws.EncodedInFormat.tlLatency :
    Laws.EncodedInFormat.Statement (.tlLatency) := fun _ => rfl
theorem Laws.EncodedInFormat.tlData0W8 :
    Laws.EncodedInFormat.Statement (.tlData0W8) := fun _ => rfl
theorem Laws.EncodedInFormat.tlMaskW8 (k : Fin 4) :
    Laws.EncodedInFormat.Statement (.tlMaskW8 k) := fun _ => rfl
theorem Laws.EncodedInFormat.tlData0W16 :
    Laws.EncodedInFormat.Statement (.tlData0W16) := fun _ => rfl
theorem Laws.EncodedInFormat.tlMaskW16 :
    Laws.EncodedInFormat.Statement (.tlMaskW16) := fun _ => rfl
theorem Laws.EncodedInFormat.tlTeardown :
    Laws.EncodedInFormat.Statement (.tlTeardown) := fun _ => rfl
theorem Laws.EncodedInFormat.tlAck :
    Laws.EncodedInFormat.Statement (.tlAck) := fun _ => rfl
theorem Laws.EncodedInFormat.tlAckClr :
    Laws.EncodedInFormat.Statement (.tlAckClr) := fun _ => rfl
theorem Laws.EncodedInFormat.tlEnd :
    Laws.EncodedInFormat.Statement (.tlEnd) := fun _ => rfl

end Sys2Proof
end

