-- ==== Sys2Proof/Tests/Slice0.lean ====
section
/-! SUPPORT. The model's own tests. Expected values are those of 95_test_vectors.md and of the examples in the
rules, named at each test; the last part shows that the hypotheses of each obligation can be met. -/

namespace Sys2Proof.Machine.Tests

open Sys2Proof Sys2Proof.Machine

/-! ### Small states -/

/-- `W = 8, L = 6, NCS = 1`: the instance of `State.reset`. -/
def cfg8 : Config := defaultConfig

/-- `W = 16, L = 6, NCS = 2`, differential clock, no reset pin. -/
def cfg16 : Config :=
  { width := .w16, latencyPred := 5, ncs := .two, hasRstN := false, clkDiff := true }

def wr (adr : BusAddr) (d : BusWord) (sel : SelMask) : Request := writeRequest adr d sel

/-- A state at counter `c` and phase `p` with one cycle of inputs. -/
def at_ (cfg : Config) (c : Nat) (p : Phase) (r : Request) (dq : DqLines) : State :=
  { State.resetOf cfg with c := c, phase := p, stim := [⟨false, r, dq, 0⟩] }

/-- A field of the next state; `none` if there is none. -/
def after {α : Type} (o : Host.Outcome State Fault Refusal) (f : State → α) : Option α :=
  match o with
  | .next t => some (f t)
  | .fault _ => none
  | .refused _ => none

/-! ### WellFormed: each check refuses an ill-formed term -/

theorem test_wf_mask_substep_zero : (Instr.tlMaskW8 0).wellFormed .w8 = false := by decide
theorem test_wf_mask_substep_three : (Instr.tlMaskW8 3).wellFormed .w8 = true := by decide
theorem test_wf_w8_rows_on_w16 :
    (Instr.caReadW8 0 0).wellFormed .w16 = false ∧ (Instr.caWriteW8 0 0).wellFormed .w16 = false ∧
    Instr.tlData0W8.wellFormed .w16 = false ∧ (Instr.tlMaskW8 1).wellFormed .w16 = false := by decide
theorem test_wf_w16_rows_on_w8 :
    (Instr.caReadW16 0 0).wellFormed .w8 = false ∧ (Instr.caWriteW16 0 0).wellFormed .w8 = false ∧
    Instr.tlData0W16.wellFormed .w8 = false ∧ Instr.tlMaskW16.wellFormed .w8 = false := by decide

/-! ### Decode: words written out from the encoding tables -/

/-- R63: `we`, `stb`, `cyc` in the low bits; the operands above them, `sel`, `dat_w`, `adr`, where log 7 puts them,
here and in the next three tests. -/
theorem test_decode_idle_nocyc :
    decodeBusReq (0x9#4 ++ 0xCAFEBABE#32 ++ 0x80000001#32 ++ 0b110#3) =
      .idleNoCyc true true 0x80000001 0xCAFEBABE 0x9 := by decide
theorem test_decode_idle_nostb :
    decodeBusReq (0x0#4 ++ 0x00000000#32 ++ 0x00000004#32 ++ 0b001#3) =
      .idleNoStb false 0x4 0 0 := by decide
/-- P2: `req = 0b011`, `adr = 00000004`. -/
theorem test_decode_read :
    decodeBusReq (0x0#4 ++ 0x00000000#32 ++ 0x00000004#32 ++ 0b011#3) = .read 0x4 0 0 := by decide
/-- P3: `req = 0b111`, `adr = 12345678`, `dat_w = A1B2C3D4`, `sel = 0xA`. -/
theorem test_decode_write :
    decodeBusReq (0xA#4 ++ 0xA1B2C3D4#32 ++ 0x12345678#32 ++ 0b111#3) =
      .write 0x12345678 0xA1B2C3D4 0xA := by decide
/-- R65, bit by bit: CA5. -/
theorem test_decode_ca_read_w8 :
    decodeCa .w8 0b101001001000110100010101100111100000000000000000#48 =
      .ok (.caReadW8 0x048D159E#29 0) := by decide
/-- CA10. -/
theorem test_decode_ca_write_w8 :
    decodeCa .w8 0x3FFFFFFF0006#48 = .ok (.caWriteW8 0x1FFFFFFF#29 3) := by decide
/-- CA16. -/
theorem test_decode_ca_read_w16 :
    decodeCa .w16 0xBFFFFFFF0007#48 = .ok (.caReadW16 0x1FFFFFFF#29 7) := by decide
/-- R66, bit by bit: CA12. -/
theorem test_decode_ca_write_w16 :
    decodeCa .w16 0b001000000000000000000000000000000000000000000111#48 =
      .ok (.caWriteW16 0 7) := by decide
/-- R71: what is never emitted is no row. -/
theorem test_decode_ca_rejects :
    decodeCa .w8 0xE00000000000#48 = .error .caRegisterSpace ∧
    decodeCa .w8 0x800000000000#48 = .error .caWrappedBurst ∧
    decodeCa .w8 0xA00000000008#48 = .error .caReservedBits ∧
    decodeCa .w16 0xA00000008000#48 = .error .caReservedBits ∧
    decodeCa .w8 0xA00000000001#48 = .error .caBit0W8 := by decide
/-- R97 for `W = 8, L = 6`: offsets 0, 3, 15, 59, 61, 63, 65, 67, 69, 70, 71, and a gap. -/
theorem test_decode_timeline_w8 :
    decodeTimeline cfg8 ⟨0, true, 1⟩ = .ok .tlTrigger ∧
    decodeTimeline cfg8 ⟨1, true, 2⟩ = .ok .tlGap ∧ decodeTimeline cfg8 ⟨3, true, 0⟩ = .ok .tlCa ∧
    decodeTimeline cfg8 ⟨15, true, 0⟩ = .ok .tlLatency ∧
    decodeTimeline cfg8 ⟨59, true, 0⟩ = .ok .tlData0W8 ∧
    decodeTimeline cfg8 ⟨61, true, 2⟩ = .ok (.tlMaskW8 1) ∧
    decodeTimeline cfg8 ⟨63, true, 0⟩ = .ok (.tlMaskW8 2) ∧
    decodeTimeline cfg8 ⟨65, true, 2⟩ = .ok (.tlMaskW8 3) ∧
    decodeTimeline cfg8 ⟨67, true, 0⟩ = .ok .tlTeardown ∧
    decodeTimeline cfg8 ⟨69, true, 2⟩ = .ok .tlAck ∧ decodeTimeline cfg8 ⟨70, true, 3⟩ = .ok .tlAckClr ∧
    decodeTimeline cfg8 ⟨71, true, 0⟩ = .ok .tlEnd := by decide
/-- R97 for `W = 16, L = 6`: offsets 0, 3, 15, 59, 61, 63, 65, 66, 67. -/
theorem test_decode_timeline_w16 :
    decodeTimeline cfg16 ⟨59, true, 0⟩ = .ok .tlData0W16 ∧
    decodeTimeline cfg16 ⟨61, true, 2⟩ = .ok .tlMaskW16 ∧
    decodeTimeline cfg16 ⟨63, true, 0⟩ = .ok .tlTeardown ∧
    decodeTimeline cfg16 ⟨65, true, 2⟩ = .ok .tlAck ∧ decodeTimeline cfg16 ⟨66, true, 3⟩ = .ok .tlAckClr ∧
    decodeTimeline cfg16 ⟨67, true, 0⟩ = .ok .tlEnd := by decide
/-- R99: an idle sequencer that is not triggered has no active row. -/
theorem test_decode_timeline_idle :
    decodeTimeline cfg8 ⟨0, false, 1⟩ = .error .timelineIdle ∧
    decodeTimeline cfg8 ⟨0, true, 2⟩ = .error .timelineIdle := by decide
/-- The table's own words (95_test_vectors.md CA4, CA7, CA11, CA12; the selectors of R69). -/
theorem test_decode_table_word :
    decodeTableWord 48 0x200000400000 = some (.caWriteW8 0x40 0) ∧
    decodeTableWord 48 0xA00000000006 = some (.caReadW8 0 3) ∧
    decodeTableWord 48 0xA00000000001 = some (.caReadW16 0 1) ∧
    decodeTableWord 48 0x200000000007 = some (.caWriteW16 0 7) ∧
    decodeTableWord 48 0x600000000000 = none ∧
    decodeTableWord 8 0b000 = some (.idleNoCyc false false 0 0 0) ∧
    decodeTableWord 8 0b001 = some (.idleNoStb false 0 0 0) ∧
    decodeTableWord 8 0b011 = some (.read 0 0 0) ∧
    decodeTableWord 8 0b111 = some (.write 0 0 0) := by decide

/-! ### The CA words of 95_test_vectors.md 2.2 -/

theorem test_ca_w8 :
    caWord .w8 0x00000004 false = 0xA00000010000#48 ∧ caWord .w8 0x00000100 true = 0x200000400000#48 ∧
    caWord .w8 0x12345678 false = 0xA48D159E0000#48 ∧ caWord .w8 0x80000003 false = 0xA00000000006#48 ∧
    caWord .w8 0x7FFFFFFC false = 0xBFFFFFFF0000#48 ∧ caWord .w8 0xFFFFFFFF true = 0x3FFFFFFF0006#48 := by
  decide
theorem test_ca_w16 :
    caWord .w16 0x00000001 false = 0xA00000000001#48 ∧ caWord .w16 0x00000007 true = 0x200000000007#48 ∧
    caWord .w16 0x12345678 false = 0xA2468ACF0000#48 ∧ caWord .w16 0x80000000 true = 0x300000000000#48 := by
  decide

/-! ### One step of each row -/

/-- SQ3 with a shift of the idle Data Path (R119). -/
theorem test_idle_nocyc :
    after (exec (.idleNoCyc true false 0 0 0) (at_ cfg8 0 1 idleRequest 0x5A))
      (fun t => (t.c, t.phase, t.dqi)) = some (0, 2, 0x5A) := by decide
/-- SQ2. -/
theorem test_idle_nostb :
    after (exec (.idleNoStb false 0 0 0) (at_ cfg8 0 1 idleRequest 0)) State.c = some 0 := by decide
/-- SQ1. -/
theorem test_read_triggers :
    after (exec (.read 0x4 0 0) (at_ cfg8 0 1 idleRequest 0)) State.c = some 1 := by decide
/-- TL3. -/
theorem test_read_issues_ca :
    after (exec (.read 0x4 0 0) (at_ cfg8 3 0 idleRequest 0)) (fun t => (t.cs, t.dqOe, t.caActive, t.sr)) =
      some (true, true, true, 0xA00000010000#48) := by decide
/-- SQ4. -/
theorem test_write_waits :
    after (exec (.write 0x4 0 0) (at_ cfg8 0 2 idleRequest 0)) State.c = some 0 := by decide
/-- TL5. -/
theorem test_write_loads :
    after (exec (.write 0x100 0xDEADBEEF 0xF) (at_ cfg8 59 0 idleRequest 0))
      (fun t => (t.sr, t.rwdsO, t.dqOe, t.rwdsOe)) = some (0xDEADBEEF0000#48, 0, true, true) := by decide

/-- CA5, CA6 and CA13, CA14 as rows. -/
theorem test_exec_ca_read_w8 :
    after (exec (.caReadW8 0x048D159E 0) (at_ cfg8 3 0 idleRequest 0)) (fun t => (t.sr, t.c)) =
      some (0xA48D159E0000#48, 4) := by decide
theorem test_exec_ca_write_w8 :
    after (exec (.caWriteW8 0x048D159E 0) (at_ cfg8 3 0 idleRequest 0)) (fun t => (t.sr, t.caActive)) =
      some (0x248D159E0000#48, true) := by decide
theorem test_exec_ca_read_w16 :
    after (exec (.caReadW16 0x02468ACF 0) (at_ cfg16 3 0 idleRequest 0)) (fun t => (t.sr, t.cs)) =
      some (0xA2468ACF0000#48, true) := by decide
theorem test_exec_ca_write_w16 :
    after (exec (.caWriteW16 0 7) (at_ cfg16 3 0 idleRequest 0)) (fun t => (t.sr, t.dqOe)) =
      some (0x200000000007#48, true) := by decide

/-- TL1, SQ1. -/
theorem test_tl_trigger :
    after (exec .tlTrigger (at_ cfg8 0 1 idleRequest 0)) (fun t => (t.c, t.cs)) = some (1, false) := by decide
theorem test_tl_gap :
    after (exec .tlGap (at_ cfg8 1 2 (wr 0 0 0) 0)) (fun t => (t.c, t.cs, t.dqOe)) =
      some (2, false, false) := by decide
/-- TL2: the load wins over the phase-0 shift. -/
theorem test_tl_ca :
    after (exec .tlCa (at_ cfg8 3 0 (wr 0x100 0 0) 0)) (fun t => (t.sr, t.cs)) =
      some (0x200000400000#48, true) := by decide
/-- TL4, DP1: the shift of this cycle is still 8 bits wide (R93, corner case 4). -/
theorem test_tl_latency :
    after (exec .tlLatency { at_ cfg16 15 0 idleRequest 0 with
      dqOe := true, caActive := true, sr := 0x123456789ABC, dqi := 0xBEEF })
      (fun t => (t.dqOe, t.caActive, t.sr)) = some (false, false, 0x3456789ABCEF#48) := by decide
/-- R106's example. -/
theorem test_tl_data0_w8_write :
    after (exec .tlData0W8 (at_ cfg8 59 0 (wr 0 0xA1B2C3D4 0b1010) 0))
      (fun t => (t.sr, t.rwdsO, t.rwdsOe)) = some (0xA1B2C3D40000#48, 1, true) := by decide
/-- TL6. -/
theorem test_tl_data0_w8_read :
    after (exec .tlData0W8 { at_ cfg8 59 0 (readRequest 0) 0 with
      rwdsO := 1, sr := 0x123456789ABC, dqi := 0xDE })
      (fun t => (t.dqOe, t.rwdsOe, t.rwdsO, t.sr)) = some (false, false, 1, 0x3456789ABCDE#48) := by decide
/-- TL7. -/
theorem test_tl_mask_w8 :
    [1, 2, 3].map (fun k => after (exec (.tlMaskW8 k) (at_ cfg8 61 2 (wr 0 0 0b1010) 0)) State.rwdsO) =
      [some 0, some 1, some 0] := by decide
/-- TL8. -/
theorem test_tl_mask_w8_read :
    after (exec (.tlMaskW8 2) (at_ cfg8 63 0 (readRequest 0) 0)) State.rwdsO = some 0 := by decide
/-- 2.5, the `W = 16` write: `sel = 0b0110`. -/
theorem test_tl_data0_w16 :
    after (exec .tlData0W16 (at_ cfg16 59 0 (wr 0 0xA1B2C3D4 0b0110) 0))
      (fun t => (t.sr, t.rwdsO)) = some (0xA1B2C3D40000#48, 0b10) := by decide
theorem test_tl_mask_w16 :
    after (exec .tlMaskW16 (at_ cfg16 61 2 (wr 0 0xA1B2C3D4 0b0110) 0)) State.rwdsO = some 0b01 := by decide
/-- TL9. -/
theorem test_tl_teardown :
    after (exec .tlTeardown { at_ cfg8 67 0 (wr 0 0 0) 0 with cs := true, dqOe := true, rwdsOe := true })
      (fun t => (t.cs, t.dqOe, t.rwdsOe, t.c)) = some (false, false, false, 68) := by decide
/-- TL10, TL11, TL12. -/
theorem test_tl_ack :
    after (exec .tlAck (at_ cfg8 69 2 idleRequest 0)) (fun t => (t.ack, t.c)) = some (true, 70) := by decide
theorem test_tl_ackclr :
    after (exec .tlAckClr { at_ cfg8 70 3 idleRequest 0 with ack := true }) (fun t => (t.ack, t.c)) =
      some (false, 71) := by decide
theorem test_tl_end :
    after (exec .tlEnd (at_ cfg8 71 0 (wr 0 0 0) 0)) State.c = some 0 := by decide

/-! ### The step, the free-running components, the pins, construction -/

/-- CC5: a reset in mid-transaction. -/
theorem test_step_reset :
    after (step { at_ cfg8 30 3 (wr 0 0 0) 0 with cs := true, stim := [⟨true, wr 0 0 0, 0, 0⟩] })
      (fun t => (t.c, t.cs, t.phase)) = some (0, false, 0) := by decide
/-- PH3, PH5. -/
theorem test_step_clk :
    after (step { at_ cfg8 20 1 idleRequest 0 with cs := true }) State.clk = some true ∧
    after (step { at_ cfg8 22 3 idleRequest 0 with cs := true, clk := true }) State.clk = some false := by
  decide
/-- DP3, DP5. -/
theorem test_step_shift :
    after (step { at_ cfg8 0 1 idleRequest 0x77 with sr := 0x123456789ABC, dqi := 0xDE })
      (fun t => (t.sr, t.dqi)) = some (0x123456789ABC#48, 0x77) ∧
    after (step { at_ cfg16 0 0 idleRequest 0 with sr := 0x123456789ABC, dqi := 0xBEEF }) State.sr =
      some 0x56789ABCBEEF#48 := by decide
/-- DP5, DP6, DP7: the DQ pins of each mode. -/
theorem test_pins_dq :
    (pins { State.resetOf cfg16 with dqOe := true, caActive := true, sr := 0x123456789ABC }).dq =
      some 0x0012 ∧
    (pins { State.resetOf cfg16 with dqOe := true, sr := 0xA1B2C3D40000 }).dq = some 0xA1B2 ∧
    (pins { State.resetOf cfg8 with dqOe := true, sr := 0x123456789ABC }).dq = some 0x12 := by decide
/-- R151: the outputs of cycle 0. -/
theorem test_pins_reset :
    pins (State.resetOf cfg16) =
      ⟨.pair false true, [true, true], none, none, none, false, 0, 0⟩ ∧
    pins State.reset = ⟨.single false, [true], some true, none, none, false, 0, 0⟩ := by decide
/-- CF2 to CF6. -/
theorem test_construct :
    buildConfig ⟨16, 1, 2, true, false⟩ = .ok ⟨.w16, 0, .two, true, false⟩ ∧
    buildConfig ⟨32, 6, 1, true, false⟩ = .error (.badWidth 32) ∧
    buildConfig ⟨8, 0, 1, true, false⟩ = .error (.badLatency 0) ∧
    buildConfig ⟨8, 6, 3, true, false⟩ = .error (.badNcs 3) ∧
    buildConfig ⟨4, 0, 0, true, false⟩ = .error (.badWidth 4) := by decide
/-- The first step after reset runs a placed word (R69, R104). -/
theorem test_placed_words :
    after (step (State.reset.withFetchWord 8 0b111)) id =
      after (exec (.write 0 0 0) (State.reset.withFetchWord 8 0b111)) id ∧
    after (step (State.reset.withFetchWord 48 0xA48D159E0000)) (fun t => (t.sr, t.c)) =
      some (0xA48D159E0000#48, 4) ∧
    after (step (State.reset.withFetchWord 48 0xA00000000001)) (fun t => (t.sr, t.c)) =
      some (0xA00000000001#48, 4) := by decide
/-- R73: a script master holds its write and drops it in the cycle after its `ack`. -/
theorem test_script :
    masterRequest ⟨[.wrw none 0x100 0xDEADBEEF, .done], 0⟩ = wr 0x100 0xDEADBEEF 0xF ∧
    masterRequest (masterNext ⟨[.wrw none 0x100 0xDEADBEEF, .done], 0⟩ true) = idleRequest ∧
    masterRequest ⟨[.rd (some 2) 0x4], 1⟩ = idleRequest ∧
    masterRequest ⟨[.rd (some 2) 0x4], 2⟩ = readRequest 0x4 := by decide

/-! ### The hypotheses of the obligations can be met

`held cfg r dq` is an idle sequencer at phase 1 with the request `r` on the bus, `rst = 0`, and the DQ lines
`dq k` in cycle `k`, for 40 cycles: longer than a transaction of the `L = 1` instances below. -/

/-- CC3: `L = 1`, `E = 31`. -/
def cfg8s : Config := { cfg8 with latencyPred := 0 }

/-- CC3: `L = 1`, `E = 27`. -/
def cfg16s : Config := { cfg16 with latencyPred := 0 }

def held (cfg : Config) (r : Request) (dq : Nat → DqLines) : State :=
  { State.resetOf cfg with phase := 1, stim := (List.range 40).map (fun k => ⟨false, r, dq k, 0⟩) }

theorem held_inputAt (cfg : Config) (r : Request) (dq : Nat → DqLines) (k : Nat) (h : k < 40) :
    (held cfg r dq).inputAt k = ⟨false, r, dq k, 0⟩ := by
  simp [State.inputAt, held, h]

theorem held_noReset (cfg : Config) (r : Request) (dq : Nat → DqLines) (n : Nat) (h : n ≤ 40) :
    NoReset (held cfg r dq) n := fun k hk => by rw [held_inputAt _ _ _ _ (by omega)]

theorem held_holds (cfg : Config) (r : Request) (dq : Nat → DqLines) (n : Nat) (h : n ≤ 40) :
    HoldsRequest (held cfg r dq) n r := fun k hk => by rw [held_inputAt _ _ _ _ (by omega)]

def aWrite : Request := wr 0x12345678 0xA1B2C3D4 0b1010
def aRead : Request := readRequest 0x12345678

/-! A step with `rst = 0`, at each kind of counter value and phase. -/

theorem witness_StepRunsTheDecodedRequest :
    (at_ cfg8 0 1 aWrite 0).inp.rst = false ∧ (at_ cfg16 67 0 aRead 0xFFFF).inp.rst = false := by decide
theorem witness_FreeRunningComponents :
    ∀ p : Phase, (at_ cfg16 0 p aRead 0xFFFF).inp.rst = false ∧ (at_ cfg16 0 p aRead 0xFFFF).phase = p := by
  decide
theorem witness_PhaseAdvancesEveryCycle : (at_ cfg8 70 3 idleRequest 0).inp.rst = false := by decide
/-- All three clauses, at both widths. -/
theorem witness_ShiftRegisterLoadsOrShifts :
    ((at_ cfg8 3 0 aRead 0).inp.rst = false ∧ (at_ cfg8 3 0 aRead 0).c = 3) ∧
    ((at_ cfg16 59 0 aWrite 0).inp.rst = false ∧ (at_ cfg16 59 0 aWrite 0).c = dataStart cfg16 ∧
      (at_ cfg16 59 0 aWrite 0).inp.req.we = true) ∧
    ((at_ cfg8 59 0 aRead 0).inp.rst = false ∧ (at_ cfg8 59 0 aRead 0).c = dataStart cfg8 ∧
      (at_ cfg8 59 0 aRead 0).inp.req.we = false) := by decide
theorem witness_ShiftBringsInTheLastSample :
    NoReset (held cfg16s aRead (fun k => 7 * k)) 2 ∧ (held cfg16s aRead (fun k => 7 * k)).phase.toNat % 2 = 1 ∧
    (tick (held cfg16s aRead (fun k => 7 * k)) ⟨false, aRead, 0, 0⟩).c ≠ 3 :=
  ⟨held_noReset _ _ _ _ (by omega), by decide, by decide⟩
theorem witness_StepPerformsTheTimelineRow :
    decode cfg8 (.timeline (timelineSelector (at_ cfg8 0 1 aWrite 0))) = .ok .tlTrigger ∧
    decode cfg8 (.timeline (timelineSelector (at_ cfg8 71 0 aWrite 0))) = .ok .tlEnd ∧
    decode cfg16 (.timeline (timelineSelector (at_ cfg16 61 2 aWrite 0))) = .ok .tlMaskW16 ∧
    (at_ cfg8 0 1 aWrite 0).inp.rst = false ∧ (at_ cfg8 71 0 aWrite 0).inp.rst = false ∧
    (at_ cfg16 61 2 aWrite 0).inp.rst = false := by decide
theorem witness_StepIssuesTheCaRow :
    (at_ cfg16 3 0 aWrite 0).inp.rst = false ∧ (at_ cfg16 3 0 aWrite 0).c = 3 := by decide
theorem witness_PlacedWordRunsNext :
    decodeTableWord 48 0xA48D159E0000 = some (.caReadW8 0x048D159E 0) ∧
    decodeTableWord 48 0x200000000007 = some (.caWriteW16 0 7) ∧ decodeTableWord 8 0b111 = some (.write 0 0 0) := by decide
theorem witness_SystemResetClearsEveryRegister :
    ({ at_ cfg8 30 3 aWrite 0 with cs := true, stim := [⟨true, aWrite, 0, 0⟩] } : State).inp.rst = true := by
  decide
theorem witness_TriggerRule :
    (at_ cfg8 0 1 aWrite 0).inp.rst = false ∧ (at_ cfg8 0 1 aWrite 0).c = 0 ∧
    (at_ cfg8 0 2 aWrite 0).inp.rst = false ∧ (at_ cfg8 0 2 aWrite 0).c = 0 := by decide
theorem witness_IdleOperationsTriggerNothing : (at_ cfg8 0 1 idleRequest 0).c = 0 := by decide
theorem witness_RequestTriggersOnlyAtPhaseOne :
    ∀ p : Phase, (at_ cfg8 0 p idleRequest 0).c = 0 ∧ (at_ cfg8 0 p idleRequest 0).phase = p := by decide
theorem witness_RequestContinuesARunningTimeline :
    (at_ cfg8 1 2 aWrite 0).c ≠ 0 ∧ (at_ cfg16 67 0 idleRequest 0).c ≠ 0 := by decide
theorem witness_RunningTimelineIgnoresCycAndStb : (at_ cfg8 71 0 aWrite 0).c ≠ 0 := by decide
/-- X5: from phase 2 the wait is three cycles; phase 1 is the boundary with no wait. -/
theorem witness_RequestWaitsForPhaseOne :
    ∀ p : Phase, ∃ s : State, s.phase = p ∧ s.c = 0 ∧ NoReset s ((5 - s.phase.toNat) % 4 + 1) ∧
      ∀ k, k ≤ (5 - s.phase.toNat) % 4 → pending (s.inputAt k).req = true := fun p =>
  ⟨{ held cfg8s aRead (fun _ => 0) with phase := p }, rfl, rfl,
    fun k hk => held_noReset cfg8s aRead (fun _ => 0) 40 (by omega) k (by omega),
    fun k hk => by
      have h := held_inputAt cfg8s aRead (fun _ => 0) k (by omega)
      show pending ((held cfg8s aRead (fun _ => 0)).inputAt k).req = true
      rw [h]; decide⟩

/-! Encodings. -/

/-- Every address field at its bounds. -/
theorem witness_DecodedCaWordIsItsEncoding :
    decodeCa cfg8.width 0x3FFFFFFF0006#48 = .ok (.caWriteW8 0x1FFFFFFF 3) ∧
    decodeCa cfg8.width 0xA00000000000#48 = .ok (.caReadW8 0 0) ∧
    decodeCa cfg16.width 0xBFFFFFFF0007#48 = .ok (.caReadW16 0x1FFFFFFF 7) := by decide
theorem witness_DecodeInvertsEncode :
    (Instr.write 0xFFFFFFFF 0xFFFFFFFF 0xF).wellFormed cfg8.width = true ∧
    (Instr.caWriteW16 0x1FFFFFFF 7).wellFormed cfg16.width = true ∧
    (Instr.tlMaskW8 1).wellFormed cfg8.width = true ∧ (Instr.tlMaskW8 3).wellFormed cfg8.width = true ∧
    Instr.tlEnd.wellFormed cfg16.width = true := by decide
theorem witness_BusReqSelection :
    (0b110#71).getLsbD 0 = false ∧
    ((0b101#71).getLsbD 0 = true ∧ (0b101#71).getLsbD 1 = false) ∧
    ((0b011#71).getLsbD 0 = true ∧ (0b011#71).getLsbD 1 = true ∧ (0b011#71).getLsbD 2 = false) ∧
    ((0b111#71).getLsbD 0 = true ∧ (0b111#71).getLsbD 1 = true ∧ (0b111#71).getLsbD 2 = true) := by decide
theorem witness_TimelineOffsetsOfEachWidth : cfg8s.width = .w8 ∧ cfg16s.width = .w16 := by decide
/-- The offsets 1 and `E` and one past it. -/
theorem witness_TimelineRowIsTheTableEntry :
    timelineRow cfg8 1 = .tlGap ∧ timelineRow cfg8 (timelineEnd cfg8) = .tlEnd ∧
    timelineRow cfg8 (timelineEnd cfg8 + 1) = .tlGap ∧ (timelineEnd cfg8 : Nat) ≠ 0 := by decide

/-! States that meet the invariants. -/

theorem held_inv (r : Request) (dq : Nat → DqLines) : Inv (held cfg8s r dq) ∧ Inv (held cfg16s r dq) := by
  constructor <;> constructor <;> simp [held, State.resetOf, cfg8s, cfg16s, cfg8, cfg16, defaultConfig,
    timelineEnd, teardownAt, dataStart, widthBits, rwdsLineCount]

/-- TL9's state: offset `S + D` of a write, clock high in phase 2 just before. -/
def inData : State :=
  { at_ cfg8 65 2 aWrite 0 with cs := true, clk := true, dqOe := true, rwdsOe := true, rwdsO := 1 }

theorem inData_inv : Inv inData := by constructor <;> decide

/-- The `ack` cycle of P1's instance. -/
def inAck : State := { at_ cfg8 70 3 aRead 0 with ack := true, sr := 0x838587898B8D }

theorem inAck_inv : Inv inAck := by constructor <;> decide

/-- A cycle of the CA phase, with the clock high. -/
def inCa : State := { at_ cfg8 14 3 aRead 0 with cs := true, clk := true, dqOe := true, caActive := true }

theorem inCa_inv : Inv inCa := by constructor <;> decide

theorem witness_StepKeepsTheInvariant :
    ∃ t, Inv inData ∧ step inData = .next t :=
  ⟨_, inData_inv, step_eq inData⟩
theorem witness_IdleSequencerLeavesPinsIdle :
    Inv (held cfg16s aRead (fun _ => 0)) ∧ (held cfg16s aRead (fun _ => 0)).c = 0 :=
  ⟨(held_inv _ _).2, rfl⟩
theorem witness_ReadDataStandsOneMoreCycle :
    Inv inAck ∧ inAck.ack = true ∧ inAck.inp.rst = false := ⟨inAck_inv, by decide, by decide⟩
/-- One state for each clause: idle, CA, data, ack. -/
theorem witness_SegmentNamesTheRegisters :
    (Inv State.reset ∧ abstractState State.reset = .idle) ∧ (Inv inCa ∧ abstractState inCa = .ca) ∧
    (Inv inData ∧ inData.rwdsOe = true) ∧ (Inv inAck ∧ inAck.ack = true) := by
  refine ⟨⟨?_, by decide⟩, ⟨inCa_inv, by decide⟩, ⟨inData_inv, by decide⟩, ⟨inAck_inv, by decide⟩⟩
  constructor <;> decide

/-! Whole transactions, at both widths. -/

theorem held_trigger (cfg : Config) (r : Request) (dq : Nat → DqLines) (h : pending r = true) :
    TriggerCycle (held cfg r dq) :=
  ⟨rfl, rfl, by rw [State.inp, held_inputAt _ _ _ _ (by omega)]; exact h⟩

/-- For TimelineRunsToItsEnd, and with `inputAt` of cycle `T + P` for its last clause. -/
theorem witness_TimelineRunsToItsEnd :
    TriggerCycle (held cfg8s aRead (fun _ => 0)) ∧
    NoReset (held cfg8s aRead (fun _ => 0)) (period cfg8s) ∧
    ((held cfg8s aRead (fun _ => 0)).inputAt (period cfg8s)).rst = false :=
  ⟨held_trigger _ _ _ rfl, held_noReset _ _ _ _ (by decide), held_noReset _ _ _ 40 (by omega) _ (by decide)⟩
/-- A read with `W = 8`, a write with `W = 16`, and a `j` inside each range. -/
theorem witness_AckInExactlyOneCycle :
    (Inv (held cfg8s aRead (fun _ => 0)) ∧ TriggerCycle (held cfg8s aRead (fun _ => 0)) ∧
      NoReset (held cfg8s aRead (fun _ => 0)) (period cfg8s)) ∧
    (Inv (held cfg16s aWrite (fun _ => 0)) ∧ TriggerCycle (held cfg16s aWrite (fun _ => 0)) ∧
      NoReset (held cfg16s aWrite (fun _ => 0)) (period cfg16s)) ∧
    timelineEnd cfg8s - 1 ≤ period cfg8s ∧ teardownAt cfg16s ≤ period cfg16s :=
  ⟨⟨(held_inv _ _).1, held_trigger _ _ _ rfl, held_noReset _ _ _ _ (by decide)⟩,
    ⟨(held_inv _ _).2, held_trigger _ _ _ rfl, held_noReset _ _ _ _ (by decide)⟩, by decide, by decide⟩
theorem witness_DeviceClockOfATransaction :
    let s := held cfg16s aWrite (fun _ => 0)
    Inv s ∧ TriggerCycle s ∧ NoReset s (period s.cfg) ∧ 5 ≤ period s.cfg ∧ teardownAt s.cfg - 1 ≤ period s.cfg :=
  ⟨(held_inv _ _).2, held_trigger _ _ _ rfl, held_noReset _ _ _ _ (by decide), by decide, by decide⟩
/-- A write, and the bounds of both ranges. -/
theorem witness_BusTurnaround :
    let s := held cfg8s aWrite (fun _ => 0)
    Inv s ∧ TriggerCycle s ∧ NoReset s (period s.cfg) ∧ (s.inputAt (dataStart s.cfg)).req.we = true ∧
      15 ≤ period s.cfg ∧ teardownAt s.cfg ≤ period s.cfg :=
  ⟨(held_inv _ _).1, held_trigger _ _ _ rfl, held_noReset _ _ _ _ (by decide),
    by rw [held_inputAt _ _ _ _ (by decide)]; rfl, by decide, by decide⟩
theorem witness_CaBytesOnTheWire :
    TriggerCycle (held cfg16s aWrite (fun _ => 0)) ∧ NoReset (held cfg16s aWrite (fun _ => 0)) 16 :=
  ⟨held_trigger _ _ _ rfl, held_noReset _ _ _ _ (by omega)⟩
/-- RD2 and RD4: the DQ lines count up. -/
theorem witness_ReadReturnsTheSampledBeats :
    ∀ cfg ∈ [cfg8s, cfg16s], let s := held cfg aRead (fun k => k)
      s.c = 0 ∧ s.phase = 1 ∧ NoReset s (timelineEnd s.cfg) ∧
      HoldsRequest s (timelineEnd s.cfg) ⟨true, true, false, 0x12345678, 0, 0⟩ := by
  intro cfg h
  have he : timelineEnd cfg ≤ 40 := by revert cfg; decide
  exact ⟨rfl, rfl, held_noReset _ _ _ _ he, held_holds _ _ _ _ he⟩
theorem witness_WriteDrivesTheBytesW8 :
    let s := held cfg8s aWrite (fun _ => 0)
    s.c = 0 ∧ s.phase = 1 ∧ s.cfg.width = .w8 ∧ NoReset s (timelineEnd s.cfg) ∧
      HoldsRequest s (timelineEnd s.cfg) ⟨true, true, true, 0x12345678, 0xA1B2C3D4, 0b1010⟩ :=
  ⟨rfl, rfl, rfl, held_noReset _ _ _ _ (by decide), held_holds _ _ _ _ (by decide)⟩
theorem witness_WriteDrivesTheHalvesW16 :
    let s := held cfg16s aWrite (fun _ => 0)
    s.c = 0 ∧ s.phase = 1 ∧ s.cfg.width = .w16 ∧ NoReset s (timelineEnd s.cfg) ∧
      HoldsRequest s (timelineEnd s.cfg) ⟨true, true, true, 0x12345678, 0xA1B2C3D4, 0b1010⟩ :=
  ⟨rfl, rfl, rfl, held_noReset _ _ _ _ (by decide), held_holds _ _ _ _ (by decide)⟩

/-! A compliant device: it held 55 in every byte; the write of `A1B2C3D4` with `sel = 0b1010` leaves
`55 B2 55 D4` at its address, and the read finds those bytes on the lines in the sample cycles. -/

def memBefore : DeviceMem := fun _ _ => 0x55#8
def memAfter : DeviceMem := fun _ k =>
  match k with
  | 0 => 0x55#8
  | 1 => 0xB2#8
  | 2 => 0x55#8
  | 3 => 0xD4#8

/-- The read of `cfg8s` samples in cycles 22, 24, 26, 28. -/
def answers8 (k : Nat) : DqLines :=
  if k = 24 then 0xB2 else if k = 28 then 0xD4 else 0x55

/-- The read of `cfg16s` samples in cycles 22 and 24. -/
def answers16 (k : Nat) : DqLines := if k = 22 then 0x55B2 else 0x55D4

theorem stores8 : DeviceStores (held cfg8s aWrite (fun _ => 0)) memBefore memAfter := by
  unfold DeviceStores; decide
theorem stores16 : DeviceStores (held cfg16s aWrite (fun _ => 0)) memBefore memAfter := by
  unfold DeviceStores; decide
theorem answers_cfg8s : DeviceAnswers (held cfg8s aRead answers8) memAfter := by
  unfold DeviceAnswers; decide
theorem answers_cfg16s : DeviceAnswers (held cfg16s aRead answers16) memAfter := by
  unfold DeviceAnswers; decide
/-- The conditions in the device's contract are met too: the words on the wire are a write's and a read's. -/
theorem wire_words :
    (wireCa (held cfg8s aWrite (fun _ => 0))).getLsbD 47 = false ∧
    (wireCa (held cfg16s aWrite (fun _ => 0))).getLsbD 47 = false ∧
    (wireCa (held cfg8s aRead answers8)).getLsbD 47 = true ∧
    (wireCa (held cfg16s aRead answers16)).getLsbD 47 = true := by decide

theorem witness_ReadAfterWriteUnderTheDeviceContract :
    (let s := held cfg8s aWrite (fun _ => 0)
     let s' := held cfg8s aRead answers8
     s'.cfg = s.cfg ∧ s.c = 0 ∧ s.phase = 1 ∧ s'.c = 0 ∧ s'.phase = 1 ∧ NoReset s (timelineEnd s.cfg) ∧
      HoldsRequest s (timelineEnd s.cfg) ⟨true, true, true, 0x12345678, 0xA1B2C3D4, 0b1010⟩ ∧
      NoReset s' (timelineEnd s.cfg) ∧
      HoldsRequest s' (timelineEnd s.cfg) ⟨true, true, false, 0x12345678, 0, 0⟩ ∧
      DeviceStores s memBefore memAfter ∧ DeviceAnswers s' memAfter) ∧
    (let s := held cfg16s aWrite (fun _ => 0)
     let s' := held cfg16s aRead answers16
     s'.cfg = s.cfg ∧ s.c = 0 ∧ s.phase = 1 ∧ s'.c = 0 ∧ s'.phase = 1 ∧ NoReset s (timelineEnd s.cfg) ∧
      HoldsRequest s (timelineEnd s.cfg) ⟨true, true, true, 0x12345678, 0xA1B2C3D4, 0b1010⟩ ∧
      NoReset s' (timelineEnd s.cfg) ∧
      HoldsRequest s' (timelineEnd s.cfg) ⟨true, true, false, 0x12345678, 0, 0⟩ ∧
      DeviceStores s memBefore memAfter ∧ DeviceAnswers s' memAfter) :=
  ⟨⟨rfl, rfl, rfl, rfl, rfl, held_noReset _ _ _ _ (by decide), held_holds _ _ _ _ (by decide),
      held_noReset _ _ _ _ (by decide), held_holds _ _ _ _ (by decide), stores8, answers_cfg8s⟩,
    ⟨rfl, rfl, rfl, rfl, rfl, held_noReset _ _ _ _ (by decide), held_holds _ _ _ _ (by decide),
      held_noReset _ _ _ _ (by decide), held_holds _ _ _ _ (by decide), stores16, answers_cfg16s⟩⟩

/-! Outputs, construction, script. -/

theorem witness_DqPinsOfEachMode :
    (State.resetOf cfg16).dqOe = false ∧ inCa.dqOe = true ∧ inCa.caActive = true ∧ inData.dqOe = true ∧
    inData.caActive = false := by decide
theorem witness_OutputsFollowTheRegisters : cfg8.ncs = .one ∧ cfg16.ncs = .two := by decide
theorem witness_UnsupportedWidthIsRefused :
    (⟨32, 6, 1, true, false⟩ : Params).w ≠ 8 ∧ (⟨32, 6, 1, true, false⟩ : Params).w ≠ 16 ∧
    (⟨4, 0, 0, true, false⟩ : Params).w ≠ 8 ∧ (⟨4, 0, 0, true, false⟩ : Params).w ≠ 16 := by decide
/-- 13/2. -/
def halfOdd : Rat := ⟨13, 2, by decide, by decide⟩

/-- Each clause at its bounds: `L` not an integer, `L = 0`, `NCS = 0` and `3`, and `L = 1` with `NCS = 2`. -/
theorem witness_ConstructionChecksInOrder :
    halfOdd.den ≠ 1 ∧ ((0 : Rat).den = 1 ∧ (0 : Rat) < 1) ∧ ((1 : Rat).den = 1 ∧ (1 : Rat) ≤ 1) ∧
    ((0 : Int) ≠ 1 ∧ (0 : Int) ≠ 2 ∧ (3 : Int) ≠ 1 ∧ (3 : Int) ≠ 2) ∧
    construct ⟨8, 1, 2, true, false⟩ =
      .next (State.resetOf ⟨.w8, 0, .two, true, false⟩) ∧
    construct ⟨8, halfOdd, 1, true, false⟩ = .refused (.config (.badLatency halfOdd)) := by
  refine ⟨by decide, by decide, by decide, by decide, rfl, rfl⟩
theorem witness_ScriptMasterHoldsItsRequest :
    pending (masterRequest ⟨[.rd none 0x4, .done], 72⟩) = true ∧
    pending (masterRequest ⟨[.idle 0, .wr (some 0) 0x100 0xDEADBEEF 0xF], 0⟩) = true := by decide

end Sys2Proof.Machine.Tests
end

