-- ==== Sys2Proof/Proofs/PhaseGenerator.lean ====
section
/-! The Phase Generator counts modulo 4 in every cycle with `rst = 0` (R75). -/

namespace Sys2Proof.Machine

/-- R75 with the phase as a number: no action of the sequencer touches the counter, so a whole cycle
advances it just as the free-running components do. -/
theorem tick_phase_toNat (s : State) (inp : Inputs) :
    (tick s inp).phase.toNat = (s.phase.toNat + 1) % 4 := by
  obtain ⟨-, hphase, -⟩ := tick_free s inp
  rw [hphase, phase_succ]

/-- Settles O25: without reset a step is one `tick`, and every `tick` advances the phase. -/
theorem phaseAdvancesEveryCycle : Obligations.PhaseAdvancesEveryCycle :=
  fun s hrst => ⟨tick s s.inp, step_of_no_reset s hrst, tick_phase_toNat s s.inp⟩

end Sys2Proof.Machine
end

