-- ==== Sys2Proof/Proofs/CaEncoder.lean ====
section
/-! The CA word, field by field (R82 to R89). The two widths lay their word out alike but for the column, so
each field is read off once, from `caBitsW16`; the word of `W = 8` is the one whose column ends in the constant
bit 0 of R87. -/

namespace Sys2Proof.Machine

/-! ### The fields of the layout, from the top -/

theorem caBitsW16_command (r : Bool) (a : BitVec 29) (b : BitVec 3) :
    (caBitsW16 r a b).extractLsb' 45 3 = BitVec.ofBool r ++ 0#1 ++ 1#1 :=
  calc (caBitsW16 r a b).extractLsb' 45 3
    _ = (BitVec.ofBool r ++ 0#1 ++ 1#1 ++ a ++ 0#13).extractLsb' 42 3 :=
        BitVec.extractLsb'_append_eq_of_le (by decide)
    _ = (BitVec.ofBool r ++ 0#1 ++ 1#1 ++ a).extractLsb' 29 3 :=
        BitVec.extractLsb'_append_eq_of_le (by decide)
    _ = BitVec.ofBool r ++ 0#1 ++ 1#1 := BitVec.extractLsb'_append_eq_left

theorem caBitsW16_upperAddress (r : Bool) (a : BitVec 29) (b : BitVec 3) :
    (caBitsW16 r a b).extractLsb' 16 29 = a :=
  calc (caBitsW16 r a b).extractLsb' 16 29
    _ = (BitVec.ofBool r ++ 0#1 ++ 1#1 ++ a ++ 0#13).extractLsb' 13 29 :=
        BitVec.extractLsb'_append_eq_of_le (by decide)
    _ = (BitVec.ofBool r ++ 0#1 ++ 1#1 ++ a).extractLsb' 0 29 :=
        BitVec.extractLsb'_append_eq_of_le (by decide)
    _ = a := BitVec.extractLsb'_append_eq_right

theorem caBitsW16_reserved (r : Bool) (a : BitVec 29) (b : BitVec 3) :
    (caBitsW16 r a b).extractLsb' 3 13 = 0#13 :=
  calc (caBitsW16 r a b).extractLsb' 3 13
    _ = (BitVec.ofBool r ++ 0#1 ++ 1#1 ++ a ++ 0#13).extractLsb' 0 13 :=
        BitVec.extractLsb'_append_eq_of_le (by decide)
    _ = 0#13 := BitVec.extractLsb'_append_eq_right

/-- Bits 2:1 of the word are bits 2:1 of the column, which stands lowest. -/
theorem caBitsW16_columnHigh (r : Bool) (a : BitVec 29) (b : BitVec 3) :
    (caBitsW16 r a b).extractLsb' 1 2 = b.extractLsb' 1 2 :=
  BitVec.extractLsb'_append_eq_of_add_le (by decide)

theorem caBitsW16_bit0 (r : Bool) (a : BitVec 29) (b : BitVec 3) :
    (caBitsW16 r a b).getLsbD 0 = b.getLsbD 0 :=
  BitVec.getLsbD_append

/-- A command bit of the word is a bit of the three-bit field above the address. -/
theorem caBitsW16_commandBit (r : Bool) (a : BitVec 29) (b : BitVec 3) (i : Nat) (hi : i < 3) :
    (caBitsW16 r a b).getLsbD (45 + i) = (BitVec.ofBool r ++ 0#1 ++ 1#1).getLsbD i := by
  rw [← caBitsW16_command r a b, BitVec.getLsbD_extractLsb', decide_eq_true hi, Bool.true_and]

/-! ### The word of each width in that layout -/

/-- R65 beside R66: the column of `W = 8` is its two address bits over a 0. -/
theorem caBitsW8_eq_caBitsW16 (r : Bool) (a : BitVec 29) (b : BitVec 2) :
    caBitsW8 r a b = caBitsW16 r a (b ++ 0#1) :=
  BitVec.append_assoc

theorem caWord_w8 (adr : BusAddr) (we : Bool) :
    caWord .w8 adr we = caBitsW16 (!we) (adr.extractLsb' 2 29) (adr.extractLsb' 0 2 ++ 0#1) :=
  caBitsW8_eq_caBitsW16 (!we) _ _

theorem caWord_w16 (adr : BusAddr) (we : Bool) :
    caWord .w16 adr we = caBitsW16 (!we) (adr.extractLsb' 3 29) (adr.extractLsb' 0 3) := rfl

theorem caWord_eq_caBitsW16 (w : Width) (adr : BusAddr) (we : Bool) :
    ∃ a b, caWord w adr we = caBitsW16 (!we) a b := by
  cases w with
  | w8 => exact ⟨_, _, caWord_w8 adr we⟩
  | w16 => exact ⟨_, _, caWord_w16 adr we⟩

/-! ### The statements -/

/-- Settles O1: the layout fixes these bits, whatever the address and the column are. -/
theorem caWordConstantBits : Obligations.CaWordConstantBits := by
  intro w adr we
  obtain ⟨a, b, hword⟩ := caWord_eq_caBitsW16 w adr we
  rw [hword]
  refine ⟨?readWrite, ?space, ?burst, caBitsW16_reserved _ a b⟩
  case readWrite =>
    exact (caBitsW16_commandBit _ a b 2 (by decide)).trans (by cases we <;> rfl)
  case space =>
    exact (caBitsW16_commandBit _ a b 1 (by decide)).trans (by cases we <;> rfl)
  case burst =>
    exact (caBitsW16_commandBit _ a b 0 (by decide)).trans (by cases we <;> rfl)

/-- Settles O2: the upper address and the column are slices of `adr`, and part of a slice is a slice. -/
theorem caWordAddressFieldsW16 : Obligations.CaWordAddressFieldsW16 := by
  intro adr we
  rw [caWord_w16]
  refine ⟨caBitsW16_upperAddress _ _ _, ?columnHigh, ?bit0⟩
  case columnHigh =>
    exact (caBitsW16_columnHigh _ _ _).trans (BitVec.extractLsb'_extractLsb'_of_le (by decide))
  case bit0 =>
    exact (caBitsW16_bit0 _ _ _).trans (BitVec.getLsbD_extractLsb' 0 3 adr 0)

/-- Settles O3: the column of `W = 8` is `adr[1:0]` over the constant bit 0. -/
theorem caWordLowerColumnW8 : Obligations.CaWordLowerColumnW8 := by
  intro adr we
  rw [caWord_w8]
  refine ⟨?columnHigh, ?bit0⟩
  case columnHigh =>
    exact (caBitsW16_columnHigh _ _ _).trans BitVec.extractLsb'_append_eq_left
  case bit0 =>
    exact (caBitsW16_bit0 _ _ _).trans BitVec.getLsbD_append

end Sys2Proof.Machine
end

