-- ==== Sys2Proof/Proofs/Construction.lean ====
section
/-! Construction refuses a width other than 8 or 16, with that width recorded (R133). The width is checked first,
so its error is the answer whatever the other parameters are. -/

namespace Sys2Proof.Machine

theorem checkWidth_unsupported {w : Int} (h8 : w ≠ 8) (h16 : w ≠ 16) :
    checkWidth w = .error (.badWidth w) := by
  rw [checkWidth, if_neg h8, if_neg h16]

/-- The first check that fails decides: no later one is reached. -/
theorem buildConfig_of_checkWidth_error {p : Params} {e : ConfigError} (h : checkWidth p.w = .error e) :
    buildConfig p = .error e := by
  rw [buildConfig, h]

theorem construct_of_buildConfig_error {p : Params} {e : ConfigError} (h : buildConfig p = .error e) :
    construct p = .refused (.config e) := by
  rw [construct, h]

/-- Settles O58: the width's check fails, the later checks are not reached, and its error is the refusal. -/
theorem unsupportedWidthIsRefused : Obligations.UnsupportedWidthIsRefused := by
  intro p h8 h16
  have hwidth : checkWidth p.w = .error (.badWidth p.w) := checkWidth_unsupported h8 h16
  have hbuild : buildConfig p = .error (.badWidth p.w) := buildConfig_of_checkWidth_error hwidth
  exact construct_of_buildConfig_error hbuild

end Sys2Proof.Machine
end

section
/-! The three encodings (R62 to R71, R82 to R90, R97): words and rows determine each other. Last, decode after encode
for every row of the table. -/

namespace Sys2Proof.Machine

/-! ## Encodings

### The CA words as rows of the table

A word the decoder takes is a word of the layout `caBitsW16`, whose three fields are free; with `W = 8` the lowest
bit of the column must be 0. Both directions of the encoding are read off from that. -/

/-- The CA48 row with `W = 8` of a direction and its address fields. -/
def caRowW8 (isRead : Bool) (a : BitVec 29) (b : BitVec 2) : Instr :=
  if isRead then .caReadW8 a b else .caWriteW8 a b

/-- The CA48 row with `W = 16` of a direction and its address fields. -/
def caRowW16 (isRead : Bool) (a : BitVec 29) (b : BitVec 3) : Instr :=
  if isRead then .caReadW16 a b else .caWriteW16 a b

theorem encode_caRowW8 (cfg : Config) (r : Bool) (a : BitVec 29) (b : BitVec 2) :
    encode cfg (caRowW8 r a b) = .ca48 (caBitsW8 r a b) := by
  cases r <;> rfl

theorem encode_caRowW16 (cfg : Config) (r : Bool) (a : BitVec 29) (b : BitVec 3) :
    encode cfg (caRowW16 r a b) = .ca48 (caBitsW16 r a b) := by
  cases r <;> rfl

theorem isRead_eq_of_caRowW8_eq {r r' : Bool} {a a' : BitVec 29} {b b' : BitVec 2}
    (h : caRowW8 r a b = caRowW8 r' a' b') : r = r' := by
  cases r <;> cases r' <;> simp [caRowW8] at h ⊢

theorem isRead_eq_of_caRowW16_eq {r r' : Bool} {a a' : BitVec 29} {b b' : BitVec 3}
    (h : caRowW16 r a b = caRowW16 r' a' b') : r = r' := by
  cases r <;> cases r' <;> simp [caRowW16] at h ⊢

theorem caRowW8_wellFormed (r : Bool) (a : BitVec 29) (b : BitVec 2) :
    (caRowW8 r a b).wellFormed .w8 = true := by
  cases r <;> rfl

theorem caRowW16_wellFormed (r : Bool) (a : BitVec 29) (b : BitVec 3) :
    (caRowW16 r a b).wellFormed .w16 = true := by
  cases r <;> rfl

theorem caRowW8_eq_requestCaInstr (adr : BusAddr) (we : Bool) :
    caRowW8 (!we) (adr.extractLsb' 2 29) (adr.extractLsb' 0 2) = requestCaInstr .w8 adr we := by
  cases we <;> rfl

theorem caRowW16_eq_requestCaInstr (adr : BusAddr) (we : Bool) :
    caRowW16 (!we) (adr.extractLsb' 3 29) (adr.extractLsb' 0 3) = requestCaInstr .w16 adr we := by
  cases we <;> rfl

theorem caBitsW16_isRead (r : Bool) (a : BitVec 29) (b : BitVec 3) :
    (caBitsW16 r a b).getLsbD 47 = r :=
  (caBitsW16_commandBit r a b 2 (by decide)).trans (by cases r <;> rfl)

theorem caBitsW16_space (r : Bool) (a : BitVec 29) (b : BitVec 3) :
    (caBitsW16 r a b).getLsbD 46 = false :=
  (caBitsW16_commandBit r a b 1 (by decide)).trans (by cases r <;> rfl)

theorem caBitsW16_burst (r : Bool) (a : BitVec 29) (b : BitVec 3) :
    (caBitsW16 r a b).getLsbD 45 = true :=
  (caBitsW16_commandBit r a b 0 (by decide)).trans (by cases r <;> rfl)

theorem caBitsW16_column (r : Bool) (a : BitVec 29) (b : BitVec 3) :
    (caBitsW16 r a b).extractLsb' 0 3 = b :=
  BitVec.extractLsb'_append_eq_right

/-- A word with the constant bits of R83 to R85 is laid out as R66 says. -/
theorem eq_caBitsW16 (x : CaWord) (hspace : x.getLsbD 46 = false) (hburst : x.getLsbD 45 = true)
    (hreserved : x.extractLsb' 3 13 = 0#13) :
    x = caBitsW16 (x.getLsbD 47) (x.extractLsb' 16 29) (x.extractLsb' 0 3) := by
  have hlt := x.isLt
  have hreserved' := congrArg BitVec.toNat hreserved
  rw [getLsbD_eq_decide, decide_eq_false_iff_not] at hspace
  rw [getLsbD_eq_decide, decide_eq_true_iff] at hburst
  simp only [BitVec.extractLsb'_toNat, Nat.shiftRight_eq_div_pow, BitVec.toNat_ofNat] at hreserved'
  apply BitVec.eq_of_toNat_eq
  rw [caBitsW16_toNat, BitVec.extractLsb'_toNat, BitVec.extractLsb'_toNat, getLsbD_eq_decide]
  simp only [Nat.shiftRight_eq_div_pow]
  by_cases hread : x.toNat / 2 ^ 47 % 2 = 1
  · rw [decide_eq_true hread, Bool.toNat_true]; omega
  · rw [decide_eq_false hread, Bool.toNat_false]; omega

/-- R71: whatever the width, only words of that layout decode. -/
theorem caBitsW16_of_decodeCa {w : Width} {x : CaWord} {i : Instr} (h : decodeCa w x = .ok i) :
    ∃ r a b, x = caBitsW16 r a b := by
  unfold decodeCa at h
  split at h
  · cases h
  next hspace =>
    split at h
    · cases h
    next hburst =>
      split at h
      · cases h
      next hreserved =>
        exact ⟨_, _, _, eq_caBitsW16 x (by simpa using hspace) (by simpa using hburst)
          (by simpa using hreserved)⟩

theorem decodeCa_w16_caBitsW16 (r : Bool) (a : BitVec 29) (b : BitVec 3) :
    decodeCa .w16 (caBitsW16 r a b) = .ok (caRowW16 r a b) := by
  simp only [decodeCa, caBitsW16_space, caBitsW16_burst, caBitsW16_reserved, caBitsW16_isRead,
    caBitsW16_upperAddress, caBitsW16_column]
  cases r <;> rfl

theorem decodeCa_w8_caBitsW16 (r : Bool) (a : BitVec 29) (b : BitVec 3) :
    decodeCa .w8 (caBitsW16 r a b) =
      if b.getLsbD 0 then .error .caBit0W8 else .ok (caRowW8 r a (b.extractLsb' 1 2)) := by
  simp only [decodeCa, caBitsW16_space, caBitsW16_burst, caBitsW16_reserved, caBitsW16_isRead,
    caBitsW16_upperAddress, caBitsW16_columnHigh, caBitsW16_bit0]
  cases r <;> rfl

theorem decodeCa_w8_caBitsW8 (r : Bool) (a : BitVec 29) (b : BitVec 2) :
    decodeCa .w8 (caBitsW8 r a b) = .ok (caRowW8 r a b) := by
  have hlow : (b ++ 0#1).getLsbD 0 = false := by revert b; decide
  have hhigh : (b ++ 0#1).extractLsb' 1 2 = b := BitVec.extractLsb'_append_eq_left
  rw [caBitsW8_eq_caBitsW16, decodeCa_w8_caBitsW16, hlow, hhigh]
  rfl

theorem column_of_bit0_eq_false (b : BitVec 3) (h : b.getLsbD 0 = false) :
    b.extractLsb' 1 2 ++ 0#1 = b := by
  revert b; decide

theorem decodeCa_w16_eq_ok_iff (x : CaWord) (i : Instr) :
    decodeCa .w16 x = .ok i ↔ ∃ r a b, x = caBitsW16 r a b ∧ i = caRowW16 r a b := by
  constructor
  · intro h
    obtain ⟨r, a, b, rfl⟩ := caBitsW16_of_decodeCa h
    rw [decodeCa_w16_caBitsW16] at h
    exact ⟨r, a, b, rfl, (Except.ok.inj h).symm⟩
  · rintro ⟨r, a, b, rfl, rfl⟩
    exact decodeCa_w16_caBitsW16 r a b

theorem decodeCa_w8_eq_ok_iff (x : CaWord) (i : Instr) :
    decodeCa .w8 x = .ok i ↔ ∃ r a b, x = caBitsW8 r a b ∧ i = caRowW8 r a b := by
  constructor
  · intro h
    obtain ⟨r, a, b, rfl⟩ := caBitsW16_of_decodeCa h
    rw [decodeCa_w8_caBitsW16] at h
    cases hb : b.getLsbD 0 <;> rw [hb] at h
    case true => cases h
    case false =>
      refine ⟨r, a, b.extractLsb' 1 2, ?_, (Except.ok.inj h).symm⟩
      rw [caBitsW8_eq_caBitsW16, column_of_bit0_eq_false b hb]
  · rintro ⟨r, a, b, rfl, rfl⟩
    exact decodeCa_w8_caBitsW8 r a b

/-! ### The mask and match columns -/

/-- A mask that keeps the command bits and drops the upper address keeps, beside them, bits of the column only. -/
theorem caBitsW16_and (r : Bool) (a : BitVec 29) (b : BitVec 3) (m : CaWord) (hread : m.getLsbD 47 = true)
    (hburst : m.getLsbD 45 = true) (haddress : m.extractLsb' 16 29 = 0#29) :
    caBitsW16 r a b &&& m = caBitsW16 r 0#29 (b &&& m.extractLsb' 0 3) := by
  have hfields := eq_caBitsW16 (caBitsW16 r a b &&& m)
    (by rw [BitVec.getLsbD_and, caBitsW16_space, Bool.false_and])
    (by rw [BitVec.getLsbD_and, caBitsW16_burst, hburst, Bool.true_and])
    (by rw [BitVec.extractLsb'_and, caBitsW16_reserved, BitVec.zero_and])
  rwa [BitVec.getLsbD_and, BitVec.extractLsb'_and, BitVec.extractLsb'_and, caBitsW16_isRead, hread,
    haddress, caBitsW16_column, Bool.and_true, BitVec.and_zero] at hfields

/-- R66: the mask selects the bits that are the same in every word of a direction. -/
theorem and_mask_w16_iff (x : CaWord) (r : Bool) :
    x &&& 0xE0000000FFF8#48 = caBitsW16 r 0 0 ↔ ∃ a b, x = caBitsW16 r a b := by
  constructor
  · intro h
    have hbit : ∀ i, (0xE0000000FFF8#48).getLsbD i = true → x.getLsbD i = (caBitsW16 r 0 0).getLsbD i := by
      intro i hi
      rw [← h, BitVec.getLsbD_and, hi, Bool.and_true]
    have hreserved : x.extractLsb' 3 13 = 0#13 := by
      have hall : (0xE0000000FFF8#48).extractLsb' 3 13 = BitVec.allOnes 13 := by decide
      rw [← caBitsW16_reserved r 0 0, ← h, BitVec.extractLsb'_and, hall, BitVec.and_allOnes]
    have hx := eq_caBitsW16 x ((hbit 46 (by decide)).trans (caBitsW16_space r 0 0))
      ((hbit 45 (by decide)).trans (caBitsW16_burst r 0 0)) hreserved
    rw [(hbit 47 (by decide)).trans (caBitsW16_isRead r 0 0)] at hx
    exact ⟨_, _, hx⟩
  · rintro ⟨a, b, rfl⟩
    rw [caBitsW16_and r a b _ (by decide) (by decide) (by decide)]
    exact congrArg (caBitsW16 r 0) BitVec.and_zero

theorem bit0_of_and_column (b : BitVec 3)
    (h : b &&& (0xE0000000FFF9#48).extractLsb' 0 3 = 0#2 ++ 0#1) : b.getLsbD 0 = false := by
  revert b; decide

/-- R65: the mask of `W = 8` has bit 0 beside those of `W = 16`. -/
theorem and_mask_w8_iff (x : CaWord) (r : Bool) :
    x &&& 0xE0000000FFF9#48 = caBitsW8 r 0 0 ↔ ∃ a b, x = caBitsW8 r a b := by
  constructor
  · intro h
    have hmask : 0xE0000000FFF8#48 = 0xE0000000FFF9#48 &&& 0xE0000000FFF8#48 := by decide
    have h16 : x &&& 0xE0000000FFF8#48 = caBitsW16 r 0 0 := by
      rw [hmask, ← BitVec.and_assoc, h]; cases r <;> decide
    obtain ⟨a, b, rfl⟩ := (and_mask_w16_iff x r).mp h16
    have hbit0 : b.getLsbD 0 = false := by
      rw [caBitsW16_and r a b _ (by decide) (by decide) (by decide), caBitsW8_eq_caBitsW16] at h
      have hcolumn := congrArg (BitVec.extractLsb' 0 3) h
      rw [caBitsW16_column, caBitsW16_column] at hcolumn
      exact bit0_of_and_column b hcolumn
    exact ⟨a, b.extractLsb' 1 2, by rw [caBitsW8_eq_caBitsW16, column_of_bit0_eq_false b hbit0]⟩
  · rintro ⟨a, b, rfl⟩
    have hcolumn : (b ++ 0#1) &&& (0xE0000000FFF9#48).extractLsb' 0 3 = 0#2 ++ 0#1 := by revert b; decide
    rw [caBitsW8_eq_caBitsW16, caBitsW8_eq_caBitsW16,
      caBitsW16_and r a _ _ (by decide) (by decide) (by decide), hcolumn]
    rfl

theorem exists_decodeCa_w8_caRowW8_iff (x : CaWord) (r : Bool) :
    (∃ a b, decodeCa .w8 x = .ok (caRowW8 r a b)) ↔ x &&& 0xE0000000FFF9#48 = caBitsW8 r 0 0 := by
  rw [and_mask_w8_iff]
  constructor
  · rintro ⟨a, b, h⟩
    obtain ⟨r', a', b', rfl, hrow⟩ := (decodeCa_w8_eq_ok_iff x _).mp h
    exact ⟨a', b', by rw [isRead_eq_of_caRowW8_eq hrow]⟩
  · rintro ⟨a, b, rfl⟩
    exact ⟨a, b, decodeCa_w8_caBitsW8 r a b⟩

theorem exists_decodeCa_w16_caRowW16_iff (x : CaWord) (r : Bool) :
    (∃ a b, decodeCa .w16 x = .ok (caRowW16 r a b)) ↔ x &&& 0xE0000000FFF8#48 = caBitsW16 r 0 0 := by
  rw [and_mask_w16_iff]
  constructor
  · rintro ⟨a, b, h⟩
    obtain ⟨r', a', b', rfl, hrow⟩ := (decodeCa_w16_eq_ok_iff x _).mp h
    exact ⟨a', b', by rw [isRead_eq_of_caRowW16_eq hrow]⟩
  · rintro ⟨a, b, rfl⟩
    exact ⟨a, b, decodeCa_w16_caBitsW16 r a b⟩

/-! ### The CA word as a number -/

theorem not_toNat_mul (we : Bool) (n : Nat) : (!we).toNat * n = if we then 0 else n := by
  cases we <;> simp

/-- Settles O4: the layout of each width in arithmetic, with the slices of `adr` as quotients and remainders. -/
theorem caWordAsNumber : Obligations.CaWordAsNumber := by
  intro adr we
  constructor
  · refine (caBitsW8_toNat (!we) (adr.extractLsb' 2 29) (adr.extractLsb' 0 2)).trans ?_
    simp only [not_toNat_mul, BitVec.extractLsb'_toNat, Nat.shiftRight_eq_div_pow, pow_zero, Nat.div_one]
  · refine (caBitsW16_toNat (!we) (adr.extractLsb' 3 29) (adr.extractLsb' 0 3)).trans ?_
    have hupper : adr.toNat / 2 ^ 3 % 2 ^ 29 = adr.toNat / 8 := by have := adr.isLt; omega
    simp only [not_toNat_mul, BitVec.extractLsb'_toNat, Nat.shiftRight_eq_div_pow, hupper, pow_zero,
      Nat.div_one]

theorem caBitsW16_inj {r r' : Bool} {a a' : BitVec 29} {b b' : BitVec 3} :
    caBitsW16 r a b = caBitsW16 r' a' b' ↔ r = r' ∧ a = a' ∧ b = b' := by
  constructor
  · intro h
    have hr := congrArg (BitVec.getLsbD · 47) h
    have ha := congrArg (BitVec.extractLsb' 16 29) h
    have hb := congrArg (BitVec.extractLsb' 0 3) h
    simp only [caBitsW16_isRead, caBitsW16_upperAddress, caBitsW16_column] at hr ha hb
    exact ⟨hr, ha, hb⟩
  · rintro ⟨rfl, rfl, rfl⟩
    rfl

/-- Two slices that meet at bit `n` fix the bits below `n + m`. -/
theorem slices_eq_iff (x y : BusAddr) (n m : Nat) :
    (x.extractLsb' n m = y.extractLsb' n m ∧ x.extractLsb' 0 n = y.extractLsb' 0 n) ↔
      x.toNat % 2 ^ (n + m) = y.toNat % 2 ^ (n + m) := by
  rw [← BitVec.toNat_inj, ← BitVec.toNat_inj]
  simp only [BitVec.extractLsb'_toNat, Nat.shiftRight_eq_div_pow, pow_zero, Nat.div_one]
  rw [pow_add, Nat.mod_mul, Nat.mod_mul]
  constructor
  · rintro ⟨hhigh, hlow⟩
    rw [hhigh, hlow]
  · intro h
    have hpos : 0 < 2 ^ n := Nat.two_pow_pos n
    have hlow := congrArg (· % 2 ^ n) h
    have hhigh := congrArg (· / 2 ^ n) h
    simp only [Nat.add_mul_mod_self_left, Nat.mod_mod, Nat.add_mul_div_left _ _ hpos,
      Nat.div_eq_of_lt (Nat.mod_lt _ hpos), Nat.zero_add] at hlow hhigh
    exact ⟨hhigh, hlow⟩

/-- Settles O5: equal words have equal fields, and the two address fields are adjacent slices of `adr`. -/
theorem caWordTellsAddressesApart : Obligations.CaWordTellsAddressesApart := by
  intro adr adr' we we'
  have hwe : (!we) = (!we') ↔ we = we' := Bool.not_inj_iff
  constructor
  · have haddr : adr = adr' ↔ adr.toNat % 2 ^ 32 = adr'.toNat % 2 ^ 32 := by
      rw [Nat.mod_eq_of_lt adr.isLt, Nat.mod_eq_of_lt adr'.isLt, BitVec.toNat_inj]
    rw [caWord_w16, caWord_w16, caBitsW16_inj, hwe, slices_eq_iff adr adr' 3 29, haddr, and_comm]
  · rw [caWord_w8, caWord_w8, caBitsW16_inj, hwe, BitVec.append_left_inj, slices_eq_iff adr adr' 2 29,
      and_comm]

/-- Settles O6: the emitted word has the layout of its width, and the decoder reads that layout back. -/
theorem emittedCaWordIsATableRow : Obligations.EmittedCaWordIsATableRow := by
  intro w adr we
  cases w with
  | w8 => exact (decodeCa_w8_caBitsW8 _ _ _).trans (congrArg _ (caRowW8_eq_requestCaInstr adr we))
  | w16 => exact (decodeCa_w16_caBitsW16 _ _ _).trans (congrArg _ (caRowW16_eq_requestCaInstr adr we))

/-- Settles O7: a row's match is the row's layout with its fields 0. -/
theorem caDecoderFollowsTheTable : Obligations.CaDecoderFollowsTheTable := fun x =>
  ⟨exists_decodeCa_w8_caRowW8_iff x true, exists_decodeCa_w8_caRowW8_iff x false,
    exists_decodeCa_w16_caRowW16_iff x true, exists_decodeCa_w16_caRowW16_iff x false⟩

/-- Settles O8: a word that decodes has the layout of its width, and its row encodes to that layout. -/
theorem decodedCaWordIsItsEncoding : Obligations.DecodedCaWordIsItsEncoding := by
  intro cfg x i h
  cases hw : cfg.width with
  | w8 =>
    rw [hw] at h
    obtain ⟨r, a, b, rfl, rfl⟩ := (decodeCa_w8_eq_ok_iff x i).mp h
    exact ⟨encode_caRowW8 cfg r a b, caRowW8_wellFormed r a b⟩
  | w16 =>
    rw [hw] at h
    obtain ⟨r, a, b, rfl, rfl⟩ := (decodeCa_w16_eq_ok_iff x i).mp h
    exact ⟨encode_caRowW16 cfg r a b, caRowW16_wellFormed r a b⟩

/-! ### BUSREQ words -/

/-- R69: the decoder reads back the request lines that were packed. -/
theorem decodeBusReq_requestWord (r : Request) : decodeBusReq (requestWord r) = requestInstr r :=
  congrArg requestInstr (wordRequest_requestWord r)

theorem encode_requestInstr (cfg : Config) (r : Request) :
    encode cfg (requestInstr r) = .busReq (requestWord r) := by
  obtain ⟨cyc, stb, we, adr, datW, sel⟩ := r
  cases cyc <;> cases stb <;> cases we <;> rfl

theorem requestInstr_wellFormed (r : Request) (w : Width) : (requestInstr r).wellFormed w = true := by
  obtain ⟨cyc, stb, we, adr, datW, sel⟩ := r
  cases cyc <;> cases stb <;> cases we <;> cases w <;> rfl

/-- The six fields fill the 71 bits. -/
theorem requestWord_wordRequest (w : BusReqWord) : requestWord (wordRequest w) = w := by
  have hlt := w.isLt
  have htoNat : ∀ i, (w.getLsbD i).toNat = w.toNat / 2 ^ i % 2 := by
    intro i
    rw [getLsbD_eq_decide]
    rcases Nat.mod_two_eq_zero_or_one (w.toNat / 2 ^ i) with h | h <;> simp [h]
  apply BitVec.eq_of_toNat_eq
  rw [requestWord_toNat]
  simp only [wordRequest, htoNat, BitVec.extractLsb'_toNat, Nat.shiftRight_eq_div_pow]
  omega

/-- Settles O9: the row of a word is the row of the request the word packs. -/
theorem busReqWordKeepsEveryBit : Obligations.BusReqWordKeepsEveryBit := by
  intro cfg w
  exact (encode_requestInstr cfg (wordRequest w)).trans (congrArg _ (requestWord_wordRequest w))

/-- Settles O10: the three low bits are the lines that `requestInstr` splits on. -/
theorem busReqSelection : Obligations.BusReqSelection := by
  intro w
  simp only [decodeBusReq, requestInstr, wordRequest]
  refine ⟨fun h0 => ?_, fun h0 h1 => ?_, fun h0 h1 h2 => ?_, fun h0 h1 h2 => ?_⟩
  · rw [h0]; exact ⟨_, _, _, _, _, rfl⟩
  · rw [h0, h1]; exact ⟨_, _, _, _, rfl⟩
  · rw [h0, h1, h2]; exact ⟨_, _, _, rfl⟩
  · rw [h0, h1, h2]; exact ⟨_, _, _, rfl⟩

/-- Settles O12: the nine words are evaluated. -/
theorem decodedSampleWords : Obligations.DecodedSampleWords := by
  unfold Obligations.DecodedSampleWords
  decide

/-! ### The timeline's table (R97) -/

theorem timelineOffsets_w8 (cfg : Config) (hw : cfg.width = .w8) :
    timelineOffsets cfg =
      [(0, .tlTrigger), (3, .tlCa), (15, .tlLatency), (dataStart cfg, .tlData0W8),
       (dataStart cfg + 2, .tlMaskW8 1), (dataStart cfg + 4, .tlMaskW8 2), (dataStart cfg + 6, .tlMaskW8 3),
       (teardownAt cfg, .tlTeardown), (teardownAt cfg + 2, .tlAck), (teardownAt cfg + 3, .tlAckClr),
       (timelineEnd cfg, .tlEnd)] := by
  have hlatency : 15 + latencyLen cfg = dataStart cfg := by
    unfold latencyLen dataStart latency; omega
  simp only [timelineOffsets, timelineEntries, hw, List.cons_append, List.nil_append, offsetsFrom,
    teardownAt_eq, timelineEnd_eq, dataLen, Nat.zero_add, Nat.add_assoc, Nat.reduceAdd, hlatency]

theorem timelineOffsets_w16 (cfg : Config) (hw : cfg.width = .w16) :
    timelineOffsets cfg =
      [(0, .tlTrigger), (3, .tlCa), (15, .tlLatency), (dataStart cfg, .tlData0W16),
       (dataStart cfg + 2, .tlMaskW16), (teardownAt cfg, .tlTeardown), (teardownAt cfg + 2, .tlAck),
       (teardownAt cfg + 3, .tlAckClr), (timelineEnd cfg, .tlEnd)] := by
  have hlatency : 15 + latencyLen cfg = dataStart cfg := by
    unfold latencyLen dataStart latency; omega
  simp only [timelineOffsets, timelineEntries, hw, List.cons_append, List.nil_append, offsetsFrom,
    teardownAt_eq, timelineEnd_eq, dataLen, Nat.zero_add, Nat.add_assoc, Nat.reduceAdd, hlatency]

/-- Settles O13: the sums of the delays, with their remainders modulo 4. -/
theorem timelineOffsetsOfEachWidth : Obligations.TimelineOffsetsOfEachWidth := by
  intro cfg S
  have hS : dataStart cfg = S := rfl
  have hmod : S % 4 = 3 := by omega
  constructor
  · intro hw
    rw [timelineOffsets_w8 cfg hw]
    simp only [teardownAt_eq, timelineEnd_eq, dataLen, hw, hS, Nat.add_assoc, Nat.reduceAdd, and_true,
      List.map_cons, List.map_nil, List.cons.injEq, Prod.mk.injEq, true_and]
    omega
  · intro hw
    rw [timelineOffsets_w16 cfg hw]
    simp only [teardownAt_eq, timelineEnd_eq, dataLen, hw, hS, Nat.add_assoc, Nat.reduceAdd, and_true,
      List.map_cons, List.map_nil, List.cons.injEq, Prod.mk.injEq, true_and]
    omega

/-- The counter's row is read off the table: the offsets are apart, so each condition of `timelineRow` meets its
own entry only. -/
theorem timelineRow_of_mem {cfg : Config} {k : Nat} {i : Instr} (hk : k ≠ 0)
    (h : (k, i) ∈ timelineOffsets cfg) : timelineRow cfg k = i := by
  have hS := dataStart_eq cfg
  have hT := teardownAt_eq cfg
  have hE := timelineEnd_eq cfg
  rcases dataLen_cases cfg.width with ⟨hw, hd⟩ | ⟨hw, hd⟩
  · rw [timelineOffsets_w8 cfg hw] at h
    simp only [List.mem_cons, Prod.mk.injEq, List.not_mem_nil, or_false] at h
    unfold timelineRow
    rcases h with ⟨rfl, rfl⟩ | ⟨rfl, rfl⟩ | ⟨rfl, rfl⟩ | ⟨rfl, rfl⟩ | ⟨rfl, rfl⟩ | ⟨rfl, rfl⟩ | ⟨rfl, rfl⟩ |
      ⟨rfl, rfl⟩ | ⟨rfl, rfl⟩ | ⟨rfl, rfl⟩ | ⟨rfl, rfl⟩ <;> grind
  · rw [timelineOffsets_w16 cfg hw] at h
    simp only [List.mem_cons, Prod.mk.injEq, List.not_mem_nil, or_false] at h
    unfold timelineRow
    rcases h with ⟨rfl, rfl⟩ | ⟨rfl, rfl⟩ | ⟨rfl, rfl⟩ | ⟨rfl, rfl⟩ | ⟨rfl, rfl⟩ | ⟨rfl, rfl⟩ | ⟨rfl, rfl⟩ |
      ⟨rfl, rfl⟩ | ⟨rfl, rfl⟩ <;> grind

theorem timelineRow_of_not_mem {cfg : Config} {k : Nat} (h : ∀ i, (k, i) ∉ timelineOffsets cfg) :
    timelineRow cfg k = .tlGap := by
  cases hw : cfg.width with
  | w8 =>
    rw [timelineOffsets_w8 cfg hw] at h
    simp only [List.mem_cons, Prod.mk.injEq, List.not_mem_nil, or_false] at h
    unfold timelineRow
    grind
  | w16 =>
    rw [timelineOffsets_w16 cfg hw] at h
    simp only [List.mem_cons, Prod.mk.injEq, List.not_mem_nil, or_false] at h
    unfold timelineRow
    grind

/-- Settles O14: the search finds an entry of the table, or there is none. -/
theorem timelineRowIsTheTableEntry : Obligations.TimelineRowIsTheTableEntry := by
  intro cfg k hk
  cases hfind : (timelineOffsets cfg).find? (fun e => e.1 == k) with
  | none =>
    refine timelineRow_of_not_mem fun i hi => ?_
    exact List.find?_eq_none.mp hfind (k, i) hi (beq_self_eq_true k)
  | some e =>
    have hoffset : e.1 = k := by simpa using List.find?_some hfind
    exact timelineRow_of_mem hk (hoffset ▸ List.mem_of_find?_eq_some hfind)

/-! ### Decode after encode -/

theorem decodeTimeline_selectorAt (cfg : Config) {k : Nat} (hk : k ≠ 0) :
    decode cfg (.timeline (selectorAt k)) = .ok (timelineRow cfg k) :=
  if_neg hk

theorem decode_entry {cfg : Config} {k : Nat} {i : Instr} (hk : k ≠ 0)
    (h : (k, i) ∈ timelineOffsets cfg) : decode cfg (.timeline (selectorAt k)) = .ok i := by
  rw [decodeTimeline_selectorAt cfg hk, timelineRow_of_mem hk h]

theorem decode_gap (cfg : Config) : decode cfg (.timeline (selectorAt 1)) = .ok .tlGap := by
  have hS := dataStart_eq cfg
  have hT := teardownAt_eq cfg
  have hE := timelineEnd_eq cfg
  rw [decodeTimeline_selectorAt cfg one_ne_zero, timelineRow_of_not_mem]
  intro i hi
  cases hw : cfg.width with
  | w8 => rw [timelineOffsets_w8 cfg hw] at hi; simp at hi; omega
  | w16 => rw [timelineOffsets_w16 cfg hw] at hi; simp at hi; omega

/-- The entries that both widths have. -/
theorem mem_timelineOffsets_common (cfg : Config) {e : Nat × Instr}
    (h : e ∈ [(3, Instr.tlCa), (15, .tlLatency), (teardownAt cfg, .tlTeardown), (teardownAt cfg + 2, .tlAck),
      (teardownAt cfg + 3, .tlAckClr), (timelineEnd cfg, .tlEnd)]) : e ∈ timelineOffsets cfg := by
  simp only [List.mem_cons, List.not_mem_nil, or_false] at h
  cases hw : cfg.width with
  | w8 => rw [timelineOffsets_w8 cfg hw]; rcases h with rfl | rfl | rfl | rfl | rfl | rfl <;> simp
  | w16 => rw [timelineOffsets_w16 cfg hw]; rcases h with rfl | rfl | rfl | rfl | rfl | rfl <;> simp

theorem mem_timelineOffsets_maskW8 (cfg : Config) (hw : cfg.width = .w8) (k : Fin 4) (hk : k ≠ 0) :
    (dataStart cfg + 2 * k.val, Instr.tlMaskW8 k) ∈ timelineOffsets cfg := by
  rw [timelineOffsets_w8 cfg hw]
  match k, hk with
  | 1, _ => simp
  | 2, _ => simp
  | 3, _ => simp

theorem decode_encode_requestInstr (cfg : Config) (r : Request) :
    decode cfg (encode cfg (requestInstr r)) = .ok (requestInstr r) := by
  rw [encode_requestInstr]
  exact congrArg _ (decodeBusReq_requestWord r)

theorem decode_encode_caRowW8 (cfg : Config) (hw : cfg.width = .w8) (r : Bool) (a : BitVec 29) (b : BitVec 2) :
    decode cfg (encode cfg (caRowW8 r a b)) = .ok (caRowW8 r a b) := by
  rw [encode_caRowW8]
  show decodeCa cfg.width _ = _
  rw [hw, decodeCa_w8_caBitsW8]

theorem decode_encode_caRowW16 (cfg : Config) (hw : cfg.width = .w16) (r : Bool) (a : BitVec 29)
    (b : BitVec 3) : decode cfg (encode cfg (caRowW16 r a b)) = .ok (caRowW16 r a b) := by
  rw [encode_caRowW16]
  show decodeCa cfg.width _ = _
  rw [hw, decodeCa_w16_caBitsW16]

/-- A row that is not for `W = 16` fits a controller of `W = 8` only, and the other way round. -/
theorem width_eq_w8_of_not_fits {w : Width} {i : Instr} (h : i.wellFormed w = true)
    (hnot : i.fitsWidth .w16 = false) : w = .w8 := by
  cases w
  · rfl
  · simp [Instr.wellFormed, hnot] at h

theorem width_eq_w16_of_not_fits {w : Width} {i : Instr} (h : i.wellFormed w = true)
    (hnot : i.fitsWidth .w8 = false) : w = .w16 := by
  cases w
  · simp [Instr.wellFormed, hnot] at h
  · rfl

theorem substep_ne_zero_of_wellFormed {w : Width} {k : Fin 4} (h : (Instr.tlMaskW8 k).wellFormed w = true) :
    k ≠ 0 :=
  bne_iff_ne.mp (Bool.and_eq_true_iff.mp h).2

/-- Settles O11, one format at a time: a BUSREQ row is the row of the request it packs, a CA48 row is told by
the layout of its word, and a TIMELINE row is the table's entry at its own offset. -/
theorem decodeInvertsEncode : Obligations.DecodeInvertsEncode := by
  intro cfg i hwf
  have hS : dataStart cfg ≠ 0 := by have := dataStart_eq cfg; omega
  have hT : teardownAt cfg ≠ 0 := by have := teardownAt_eq cfg; omega
  have hE : timelineEnd cfg ≠ 0 := by have := timelineEnd_eq cfg; omega
  cases i with
  | idleNoCyc stb we adr datW sel => exact decode_encode_requestInstr cfg ⟨false, stb, we, adr, datW, sel⟩
  | idleNoStb we adr datW sel => exact decode_encode_requestInstr cfg ⟨true, false, we, adr, datW, sel⟩
  | read adr datW sel => exact decode_encode_requestInstr cfg ⟨true, true, false, adr, datW, sel⟩
  | write adr datW sel => exact decode_encode_requestInstr cfg ⟨true, true, true, adr, datW, sel⟩
  | caReadW8 a b => exact decode_encode_caRowW8 cfg (width_eq_w8_of_not_fits hwf rfl) true a b
  | caWriteW8 a b => exact decode_encode_caRowW8 cfg (width_eq_w8_of_not_fits hwf rfl) false a b
  | caReadW16 a b => exact decode_encode_caRowW16 cfg (width_eq_w16_of_not_fits hwf rfl) true a b
  | caWriteW16 a b => exact decode_encode_caRowW16 cfg (width_eq_w16_of_not_fits hwf rfl) false a b
  | tlTrigger => rfl
  | tlGap => exact decode_gap cfg
  | tlCa => exact decode_entry (k := 3) (by decide) (mem_timelineOffsets_common cfg (by simp))
  | tlLatency => exact decode_entry (k := 15) (by decide) (mem_timelineOffsets_common cfg (by simp))
  | tlTeardown => exact decode_entry hT (mem_timelineOffsets_common cfg (by simp))
  | tlAck => exact decode_entry (by omega) (mem_timelineOffsets_common cfg (by simp))
  | tlAckClr => exact decode_entry (by omega) (mem_timelineOffsets_common cfg (by simp))
  | tlEnd => exact decode_entry hE (mem_timelineOffsets_common cfg (by simp))
  | tlData0W8 =>
    have hw := width_eq_w8_of_not_fits hwf rfl
    exact decode_entry hS (by rw [timelineOffsets_w8 cfg hw]; simp)
  | tlMaskW8 k =>
    have hw := width_eq_w8_of_not_fits hwf rfl
    exact decode_entry (Nat.ne_of_gt (by omega))
      (mem_timelineOffsets_maskW8 cfg hw k (substep_ne_zero_of_wellFormed hwf))
  | tlData0W16 =>
    have hw := width_eq_w16_of_not_fits hwf rfl
    exact decode_entry hS (by rw [timelineOffsets_w16 cfg hw]; simp)
  | tlMaskW16 =>
    have hw := width_eq_w16_of_not_fits hwf rfl
    exact decode_entry (by omega) (by rw [timelineOffsets_w16 cfg hw]; simp)

end Sys2Proof.Machine
end

section
/-! One cycle of the controller, register by register, and the invariants of R132: every step keeps them, and what they
say of the pins and of the abstract states. -/

namespace Sys2Proof.Machine

/-! ## One cycle, register by register

A cycle with `rst = 0` is the action of its offset, done over the free-running components, and the counter. Each
register of the sequencer then has one equation, which says at which offsets it is written. -/

/-- The counter after a cycle with `rst = 0` (R99, R100). -/
def countAfter (s : State) (inp : Inputs) : Nat :=
  if s.c = 0 then (if triggers s inp then 1 else 0) else nextCount s.cfg s.c

/-- Offset 0 has no action (R99), so the trigger needs no case of its own. -/
theorem tick_eq_actionAt (s : State) (inp : Inputs) :
    tick s inp = { actionAt s.cfg inp s.c (freeRun s inp) with c := countAfter s inp } := by
  by_cases hc : s.c = 0
  · have hS := dataStart_eq s.cfg
    have hnone := actionAt_gap s.cfg inp (freeRun s inp) 0 (by decide) (by decide) (by omega)
    rw [hc, hnone, countAfter, if_pos hc, tick, if_pos hc]
  · rw [countAfter, if_neg hc, tick, if_neg hc]
    rfl

/-- The order of the offsets (R97), and what they leave modulo 4. -/
theorem offsets_order (cfg : Config) :
    19 ≤ dataStart cfg ∧ dataStart cfg % 4 = 3 ∧ dataStart cfg + 4 ≤ teardownAt cfg ∧
      teardownAt cfg % 4 = 3 ∧ timelineEnd cfg = teardownAt cfg + 4 := by
  have hS := dataStart_eq cfg
  have hT := teardownAt_eq cfg
  have hE := timelineEnd_eq cfg
  rcases dataLen_cases cfg.width with ⟨_, hd⟩ | ⟨_, hd⟩ <;> omega

/-! ### What an action writes -/

theorem actionAt_cs (cfg : Config) (inp : Inputs) (k : Nat) (nx : State) :
    (actionAt cfg inp k nx).cs = if k = 3 then true else if k = teardownAt cfg then false else nx.cs := by
  have hord := offsets_order cfg
  rcases actionAt_cases cfg inp k nx with h | h | h | h | h | h | h | h <;>
  grind [actCa_cs, actLatency_cs, actData0_cs, actMask_cs, actTeardown_cs, actAck_cs, actAckClr_cs]

theorem actionAt_caActive (cfg : Config) (inp : Inputs) (k : Nat) (nx : State) :
    (actionAt cfg inp k nx).caActive = if k = 3 then true else if k = 15 then false else nx.caActive := by
  have hord := offsets_order cfg
  rcases actionAt_cases cfg inp k nx with h | h | h | h | h | h | h | h <;>
  grind [actCa_caActive, actLatency_caActive, actData0_caActive, actMask_caActive, actTeardown_caActive,
    actAck_caActive, actAckClr_caActive]

theorem actionAt_ack (cfg : Config) (inp : Inputs) (k : Nat) (nx : State) :
    (actionAt cfg inp k nx).ack =
      if k = teardownAt cfg + 2 then true else if k = teardownAt cfg + 3 then false else nx.ack := by
  have hord := offsets_order cfg
  rcases actionAt_cases cfg inp k nx with h | h | h | h | h | h | h | h <;>
  grind [actCa_ack, actLatency_ack, actData0_ack, actMask_ack, actTeardown_ack, actAck_ack, actAckClr_ack]

theorem actionAt_rwdsOe (cfg : Config) (inp : Inputs) (k : Nat) (nx : State) :
    (actionAt cfg inp k nx).rwdsOe =
      if k = dataStart cfg then inp.req.we else if k = teardownAt cfg then false else nx.rwdsOe := by
  have hord := offsets_order cfg
  rcases actionAt_cases cfg inp k nx with h | h | h | h | h | h | h | h <;>
  grind [actCa_rwdsOe, actLatency_rwdsOe, actData0_rwdsOe, actMask_rwdsOe, actTeardown_rwdsOe,
    actAck_rwdsOe, actAckClr_rwdsOe]

theorem actionAt_dqOe (cfg : Config) (inp : Inputs) (k : Nat) (nx : State) :
    (actionAt cfg inp k nx).dqOe =
      if k = 3 then true else if k = 15 then false else if k = dataStart cfg then inp.req.we
      else if k = teardownAt cfg then false else nx.dqOe := by
  have hord := offsets_order cfg
  rcases actionAt_cases cfg inp k nx with h | h | h | h | h | h | h | h <;>
  grind [actCa_dqOe, actLatency_dqOe, actData0_dqOe, actMask_dqOe, actTeardown_dqOe, actAck_dqOe, actAckClr_dqOe]

theorem actionAt_sr (cfg : Config) (inp : Inputs) (k : Nat) (nx : State) :
    (actionAt cfg inp k nx).sr =
      if k = 3 then caWord cfg.width inp.req.adr inp.req.we
      else if k = dataStart cfg ∧ inp.req.we = true then payloadWord inp.req.datW else nx.sr := by
  have hord := offsets_order cfg
  rcases actionAt_cases cfg inp k nx with h | h | h | h | h | h | h | h <;>
  grind [actCa_sr, actLatency_sr, actData0_sr, actMask_sr, actTeardown_sr, actAck_sr, actAckClr_sr]

/-- The mask of data sub-step `k`: `maskW8` or `maskW16`, with the sub-step as a number (R106 to R109). -/
def substepMask (w : Width) (sel : SelMask) (k : Nat) : RwdsLines :=
  match w with
  | .w8 => 0#1 ++ BitVec.ofBool (!sel.getLsbD k)
  | .w16 => BitVec.ofBool (!sel.getLsbD (2 * k)) ++ BitVec.ofBool (!sel.getLsbD (2 * k + 1))

theorem substepMask_lt (w : Width) (sel : SelMask) (k : Nat) :
    (substepMask w sel k).toNat < 2 ^ rwdsLineCount w := by
  cases w with
  | w8 =>
    show (0#1 ++ BitVec.ofBool (!sel.getLsbD k)).toNat < 2
    cases sel.getLsbD k <;> decide
  | w16 => exact (substepMask .w16 sel k).isLt

/-- A sub-step begins at every second offset of the data phase. -/
def IsSubstep (cfg : Config) (k : Nat) : Prop :=
  dataStart cfg ≤ k ∧ k < teardownAt cfg ∧ (k - dataStart cfg) % 2 = 0

theorem actionAt_rwdsO_of_substep (cfg : Config) (inp : Inputs) (k : Nat) (nx : State)
    (h : IsSubstep cfg k) :
    (actionAt cfg inp k nx).rwdsO =
      if inp.req.we then substepMask cfg.width inp.req.sel ((k - dataStart cfg) / 2) else nx.rwdsO := by
  obtain ⟨hlo, hhi, heven⟩ := h
  obtain ⟨j, rfl⟩ : ∃ j, k = dataStart cfg + 2 * j := ⟨(k - dataStart cfg) / 2, by omega⟩
  have hj : (dataStart cfg + 2 * j - dataStart cfg) / 2 = j := by omega
  rw [hj]
  have hT := teardownAt_eq cfg
  rcases dataLen_cases cfg.width with ⟨hw, hd⟩ | ⟨hw, hd⟩
  · rw [hw]
    by_cases h0 : j = 0
    · subst h0
      exact (congrArg State.rwdsO (actionAt_data0_w8 cfg inp nx hw)).trans (actData0_rwdsO _ _ _)
    · exact (congrArg State.rwdsO (actionAt_mask_w8 cfg inp nx hw ⟨j, by omega⟩
        (Fin.ne_of_val_ne h0))).trans (actMask_rwdsO _ _ _)
  · rw [hw]
    obtain rfl | rfl : j = 0 ∨ j = 1 := by omega
    · exact (congrArg State.rwdsO (actionAt_data0_w16 cfg inp nx hw)).trans (actData0_rwdsO _ _ _)
    · exact (congrArg State.rwdsO (actionAt_mask_w16 cfg inp nx hw)).trans (actMask_rwdsO _ _ _)

theorem actionAt_rwdsO_of_not_substep (cfg : Config) (inp : Inputs) (k : Nat) (nx : State)
    (h : ¬ IsSubstep cfg k) : (actionAt cfg inp k nx).rwdsO = nx.rwdsO := by
  have hord := offsets_order cfg
  have hT := teardownAt_eq cfg
  unfold IsSubstep at h
  by_cases hdata : dataStart cfg ≤ k ∧ k < teardownAt cfg
  · have hd : dataLen cfg.width % 4 = 0 := by cases cfg.width <;> rfl
    rw [actionAt_none cfg inp k nx] <;> omega
  · rcases actionAt_cases cfg inp k nx with h | h | h | h | h | h | h | h <;>
      grind [actCa_rwdsO, actLatency_rwdsO, actTeardown_rwdsO, actAck_rwdsO, actAckClr_rwdsO]

/-! ### What a cycle writes -/

@[simp] theorem tick_cfg (s : State) (inp : Inputs) : (tick s inp).cfg = s.cfg := (tick_free s inp).1

theorem tick_c (s : State) (inp : Inputs) : (tick s inp).c = countAfter s inp := by
  rw [tick_eq_actionAt]

theorem tick_cs (s : State) (inp : Inputs) :
    (tick s inp).cs = if s.c = 3 then true else if s.c = teardownAt s.cfg then false else s.cs := by
  rw [tick_eq_actionAt]
  exact actionAt_cs s.cfg inp s.c (freeRun s inp)

theorem tick_caActive (s : State) (inp : Inputs) :
    (tick s inp).caActive = if s.c = 3 then true else if s.c = 15 then false else s.caActive := by
  rw [tick_eq_actionAt]
  exact actionAt_caActive s.cfg inp s.c (freeRun s inp)

theorem tick_ack (s : State) (inp : Inputs) :
    (tick s inp).ack =
      if s.c = teardownAt s.cfg + 2 then true else if s.c = teardownAt s.cfg + 3 then false else s.ack := by
  rw [tick_eq_actionAt]
  exact actionAt_ack s.cfg inp s.c (freeRun s inp)

theorem tick_rwdsOe (s : State) (inp : Inputs) :
    (tick s inp).rwdsOe =
      if s.c = dataStart s.cfg then inp.req.we else if s.c = teardownAt s.cfg then false else s.rwdsOe := by
  rw [tick_eq_actionAt]
  exact actionAt_rwdsOe s.cfg inp s.c (freeRun s inp)

theorem tick_dqOe (s : State) (inp : Inputs) :
    (tick s inp).dqOe =
      if s.c = 3 then true else if s.c = 15 then false else if s.c = dataStart s.cfg then inp.req.we
      else if s.c = teardownAt s.cfg then false else s.dqOe := by
  rw [tick_eq_actionAt]
  exact actionAt_dqOe s.cfg inp s.c (freeRun s inp)

theorem tick_sr (s : State) (inp : Inputs) :
    (tick s inp).sr =
      if s.c = 3 then caWord s.cfg.width inp.req.adr inp.req.we
      else if s.c = dataStart s.cfg ∧ inp.req.we = true then payloadWord inp.req.datW
      else if evenPhase s.phase then shiftedSr s else s.sr := by
  rw [tick_eq_actionAt]
  exact actionAt_sr s.cfg inp s.c (freeRun s inp)

theorem tick_rwdsO_of_substep (s : State) (inp : Inputs) (h : IsSubstep s.cfg s.c) :
    (tick s inp).rwdsO =
      if inp.req.we then substepMask s.cfg.width inp.req.sel ((s.c - dataStart s.cfg) / 2) else s.rwdsO := by
  rw [tick_eq_actionAt]
  exact actionAt_rwdsO_of_substep s.cfg inp s.c (freeRun s inp) h

theorem tick_rwdsO_of_not_substep (s : State) (inp : Inputs) (h : ¬ IsSubstep s.cfg s.c) :
    (tick s inp).rwdsO = s.rwdsO := by
  rw [tick_eq_actionAt]
  exact actionAt_rwdsO_of_not_substep s.cfg inp s.c (freeRun s inp) h

/-! ## The invariant -/

/-- The counter goes round: idle or triggered from 0, else on by one, and from `E` back to 0. -/
theorem countAfter_cases (s : State) (inp : Inputs) :
    (s.c = 0 ∧ triggers s inp = false ∧ countAfter s inp = 0) ∨
    (s.c = 0 ∧ s.phase.toNat = 1 ∧ triggers s inp = true ∧ countAfter s inp = 1) ∨
    (s.c = timelineEnd s.cfg ∧ countAfter s inp = 0) ∨
    (s.c ≠ 0 ∧ s.c ≠ timelineEnd s.cfg ∧ countAfter s inp = s.c + 1) := by
  have hE := timelineEnd_eq s.cfg
  unfold countAfter nextCount
  by_cases hc : s.c = 0
  · cases ht : triggers s inp with
    | false => simp [hc]
    | true =>
      have hp : s.phase = 1 := by
        simp only [triggers, Bool.and_eq_true, beq_iff_eq] at ht
        exact ht.2
      simp [hc, hp]
  · by_cases he : s.c = timelineEnd s.cfg <;> simp [hc, he]
    omega

theorem tick_clk (s : State) (inp : Inputs) :
    (tick s inp).clk =
      if s.phase.toNat = 1 then s.cs else if s.phase.toNat = 3 then false else s.clk := by
  obtain ⟨-, -, hclk, -⟩ := tick_free s inp
  rw [hclk, nextClk_eq]

theorem tick_dqi (s : State) (inp : Inputs) :
    (tick s inp).dqi = sampleDq s.cfg.width inp.dqIn := by
  obtain ⟨-, -, -, hdqi, -⟩ := tick_free s inp
  exact hdqi

/-- R132: one cycle with `rst = 0` keeps each item. -/
theorem tick_inv {s : State} (h : Inv s) (inp : Inputs) : Inv (tick s inp) := by
  have hord := offsets_order s.cfg
  have hc := countAfter_cases s inp
  have hcount := h.count
  constructor
  case count => rw [tick_cfg, tick_c]; omega
  case phase =>
    have hphase := h.phase
    rw [tick_c, tick_phase_toNat]; omega
  case cs =>
    have hcs := h.cs
    rw [tick_cfg, tick_c, tick_cs]; grind
  case caActive =>
    have hca := h.caActive
    rw [tick_c, tick_caActive]; grind
  case ack =>
    have hack := h.ack
    rw [tick_cfg, tick_c, tick_ack]; grind
  case rwdsOe =>
    have hrwdsOe := h.rwdsOe
    rw [tick_cfg, tick_c, tick_rwdsOe]; grind
  case dqOe =>
    have hrwdsOe := h.rwdsOe
    have hdqOe := h.dqOe
    rw [tick_c, tick_rwdsOe, tick_dqOe]; grind
  case clk =>
    have hp := s.phase.isLt
    have hphase := h.phase
    have hcs := h.cs
    have hclk := h.clk
    rw [tick_cfg, tick_c, tick_clk, tick_phase_toNat]; grind
  case dqiWidth =>
    rw [tick_cfg, tick_dqi, sampleDq_toNat]
    exact Nat.mod_lt _ (Nat.two_pow_pos _)
  case rwdsOWidth =>
    rw [tick_cfg]
    by_cases hs : IsSubstep s.cfg s.c
    · rw [tick_rwdsO_of_substep s inp hs]
      split
      · exact substepMask_lt _ _ _
      · exact h.rwdsOWidth
    · rw [tick_rwdsO_of_not_substep s inp hs]
      exact h.rwdsOWidth

theorem resetOf_inv (cfg : Config) : Inv (State.resetOf cfg) := by
  have hord := offsets_order cfg
  constructor <;> simp

/-- A reset state meets the invariants wherever the environment stands. -/
theorem systemReset_inv (s : State) : Inv (systemReset s) := by
  obtain ⟨hcount, hphase, hcs, hca, hack, hrwdsOe, hdqOe, hclk, hdqi, hrwdsO⟩ := resetOf_inv s.cfg
  exact ⟨hcount, hphase, hcs, hca, hack, hrwdsOe, hdqOe, hclk, hdqi, hrwdsO⟩

/-- Settles O22: a step is the system reset or one cycle, and each keeps the invariants. -/
theorem stepKeepsTheInvariant : Obligations.StepKeepsTheInvariant := by
  intro s t hinv hstep
  rw [step_eq] at hstep
  obtain rfl := Host.Outcome.next.inj hstep
  split
  · exact systemReset_inv s
  · exact tick_inv hinv s.inp

/-- Settles O23: with every register 0 each item holds. -/
theorem resetStateMeetsTheInvariant : Obligations.ResetStateMeetsTheInvariant :=
  ⟨resetOf_inv, resetOf_inv defaultConfig⟩

/-- Item 8 of R132 (with D21): in an idle sequencer every register of the sequencer but `rwds_o` is 0. -/
theorem Inv.idle_registers {s : State} (h : Inv s) (hc : s.c = 0) :
    s.cs = false ∧ s.clk = false ∧ s.dqOe = false ∧ s.rwdsOe = false ∧ s.ack = false ∧
      s.caActive = false := by
  have hord := offsets_order s.cfg
  have hcs := h.cs
  have hclk := h.clk
  have hrwdsOe := h.rwdsOe
  have hdqOe := h.dqOe
  have hack := h.ack
  have hca := h.caActive
  rw [hc] at hcs hclk hrwdsOe hdqOe hack hca
  grind

/-- Settles O24: with those registers 0, each pin shows its idle value. -/
theorem idleSequencerLeavesPinsIdle : Obligations.IdleSequencerLeavesPinsIdle := by
  intro s hinv hc
  obtain ⟨hcs, hclk, hdqOe, hrwdsOe, hack, hca⟩ := hinv.idle_registers hc
  refine ⟨?chipSelect, ?clock, ?dq, ?rwds, hack, hca⟩
  case chipSelect =>
    show ∀ b ∈ csPins s, b = true
    unfold csPins
    cases s.cfg.ncs <;> simp [hcs]
  case clock =>
    show clkPins s = _
    rw [clkPins, hclk]; rfl
  case dq => exact if_neg (by rw [hdqOe]; decide)
  case rwds => exact if_neg (by rw [hrwdsOe]; decide)

/-- Settles O52: the acknowledge cycle has phase 3, in which nothing shifts, and its action only lowers `ack`. -/
theorem readDataStandsOneMoreCycle : Obligations.ReadDataStandsOneMoreCycle := by
  intro s hinv hack hrst
  have hord := offsets_order s.cfg
  have hc : s.c = teardownAt s.cfg + 3 := hinv.ack.mp hack
  have hphase := hinv.phase (by omega)
  have hsr : (tick s s.inp).sr = s.sr := by
    rw [tick_sr, evenPhase_eq, if_neg (by omega), if_neg (by omega),
      if_neg (by rw [decide_eq_true_iff]; omega)]
  have hack' : (tick s s.inp).ack = false := by
    rw [tick_ack, if_neg (by omega), if_pos hc]
  exact ⟨_, step_of_no_reset s hrst, congrArg (BitVec.extractLsb' 0 32) hsr, hsr, hack'⟩

/-! ### The abstract states as ranges of the counter (R42) -/

theorem segmentOf_eq_idle_iff (cfg : Config) (c : Nat) : segmentOf cfg c = .idle ↔ c = 0 := by
  unfold segmentOf; split_ifs <;> simp <;> omega

theorem segmentOf_eq_ca_iff (cfg : Config) (c : Nat) : segmentOf cfg c = .ca ↔ 4 ≤ c ∧ c ≤ 15 := by
  unfold segmentOf; split_ifs <;> simp <;> omega

theorem segmentOf_eq_latency_iff (cfg : Config) (c : Nat) :
    segmentOf cfg c = .latency ↔ 16 ≤ c ∧ c ≤ dataStart cfg := by
  unfold segmentOf; split_ifs <;> simp <;> omega

theorem segmentOf_eq_data_iff (cfg : Config) (c : Nat) :
    segmentOf cfg c = .data ↔ dataStart cfg + 1 ≤ c ∧ c ≤ teardownAt cfg := by
  have hord := offsets_order cfg
  unfold segmentOf; split_ifs <;> simp <;> omega

theorem segmentOf_eq_ack_iff (cfg : Config) (c : Nat) : segmentOf cfg c = .ack ↔ teardownAt cfg + 3 ≤ c := by
  have hord := offsets_order cfg
  unfold segmentOf; split_ifs <;> simp <;> omega

/-- Settles O57: the segments are ranges of the counter, and by R132 so are the registers. -/
theorem segmentNamesTheRegisters : Obligations.SegmentNamesTheRegisters := by
  intro s hinv
  have hord := offsets_order s.cfg
  unfold abstractState
  rw [segmentOf_eq_idle_iff, segmentOf_eq_ca_iff, segmentOf_eq_latency_iff, segmentOf_eq_data_iff,
    segmentOf_eq_ack_iff, hinv.cs, hinv.caActive, hinv.ack]
  exact ⟨Iff.rfl, Iff.rfl, by omega, hinv.rwdsOe, fun hack => hack.ge⟩

end Sys2Proof.Machine
end

section
/-! The rows of the table as cycles, and the step as the cycle of a row: what each row writes and what it leaves, which
row a step performs, and what a step does not depend on. -/

namespace Sys2Proof.Machine

/-! ## The rows of the table as cycles

Every row is one cycle: the free-running components, then the action set of the row. What an action set leaves to
the free-running components is said once, of the action set. -/

/-- `act` leaves alone what R129 keeps from the sequencer: the Phase Generator, the sample and the environment. -/
def KeepsFreeRunning (act : State → State) : Prop :=
  ∀ nx, (act nx).phase = nx.phase ∧ (act nx).clk = nx.clk ∧ (act nx).dqi = nx.dqi ∧
    (act nx).cfg = nx.cfg ∧ (act nx).stim = nx.stim ∧ (act nx).cycle = nx.cycle

theorem keepsFreeRunning_actCa (x : CaWord) : KeepsFreeRunning (actCa x) :=
  fun _ => ⟨rfl, rfl, rfl, rfl, rfl, rfl⟩

theorem keepsFreeRunning_actLatency : KeepsFreeRunning actLatency := fun _ => ⟨rfl, rfl, rfl, rfl, rfl, rfl⟩

theorem keepsFreeRunning_actData0 (m : RwdsLines) (r : Request) : KeepsFreeRunning (actData0 m r) :=
  fun nx => ⟨actData0_phase m r nx, actData0_clk m r nx, actData0_dqi m r nx, actData0_cfg m r nx,
    actData0_stim m r nx, actData0_cycle m r nx⟩

theorem keepsFreeRunning_actMask (m : RwdsLines) (r : Request) : KeepsFreeRunning (actMask m r) :=
  fun nx => ⟨actMask_phase m r nx, actMask_clk m r nx, actMask_dqi m r nx, actMask_cfg m r nx,
    actMask_stim m r nx, actMask_cycle m r nx⟩

theorem keepsFreeRunning_actTeardown : KeepsFreeRunning actTeardown := fun _ => ⟨rfl, rfl, rfl, rfl, rfl, rfl⟩

theorem keepsFreeRunning_actAck : KeepsFreeRunning actAck := fun _ => ⟨rfl, rfl, rfl, rfl, rfl, rfl⟩

theorem keepsFreeRunning_actAckClr : KeepsFreeRunning actAckClr := fun _ => ⟨rfl, rfl, rfl, rfl, rfl, rfl⟩

theorem runningCycle_freeRuns {act : State → State} (h : KeepsFreeRunning act) (s : State) :
    FreeRuns s (runningCycle act s s.inp) := by
  obtain ⟨hphase, hclk, hdqi, hcfg, hstim, hcycle⟩ := h (freeRun s s.inp)
  have hfree := freeRun_freeRuns s
  unfold FreeRuns at hfree ⊢
  rwa [runningCycle_phase, runningCycle_clk, runningCycle_dqi, runningCycle_cfg, runningCycle_stim,
    runningCycle_cycle, hphase, hclk, hdqi, hcfg, hstim, hcycle]

theorem runningCycle_shiftsSr {act : State → State} {s : State} {inp : Inputs}
    (h : (act (freeRun s inp)).sr = (freeRun s inp).sr) : ShiftsSr s (runningCycle act s inp) := by
  have hfree := freeRun_shiftsSr s inp
  unfold ShiftsSr at hfree ⊢
  rwa [runningCycle_sr, h]

theorem runningCycle_countsOn (act : State → State) (s : State) (inp : Inputs) :
    CountsOn s (runningCycle act s inp) := rfl

/-- A cycle that writes no register of the sequencer but the counter. -/
theorem freeRun_withCount (s : State) (n : Nat) :
    FreeRuns s { freeRun s s.inp with c := n } ∧ ShiftsSr s { freeRun s s.inp with c := n } ∧
      KeepsControl s { freeRun s s.inp with c := n } :=
  ⟨freeRun_freeRuns s, freeRun_shiftsSr s s.inp, rfl, rfl, rfl, rfl, rfl, rfl⟩

/-- Settles O36: the three rows are free-running cycles with a counter value of their own. -/
theorem rowsWithoutActionOnlyCount : Obligations.RowsWithoutActionOnlyCount := by
  intro s
  have hcount := freeRun_withCount s
  refine ⟨?trigger, ?gap, ?theEnd⟩
  case trigger =>
    obtain ⟨hfree, hshift, hkeep⟩ := hcount 1
    exact ⟨_, rfl, hfree, hshift, hkeep, rfl⟩
  case gap =>
    obtain ⟨hfree, hshift, hkeep⟩ := hcount (nextCount s.cfg s.c)
    exact ⟨_, rfl, hfree, hshift, hkeep, rfl⟩
  case theEnd =>
    obtain ⟨hfree, hshift, hkeep⟩ := hcount 0
    exact ⟨_, rfl, hfree, hshift, hkeep, rfl⟩

theorem actCa_issuesCaWord (s : State) (x : CaWord) :
    IssuesCaWord s (runningCycle (actCa x) s s.inp) x.toNat :=
  ⟨runningCycle_freeRuns (keepsFreeRunning_actCa x) s, runningCycle_countsOn _ s _, rfl, rfl, rfl, rfl, rfl,
    rfl, rfl⟩

/-- Settles O37: the CA action with the word of the live request. -/
theorem tlCaIssuesTheRequestsWord : Obligations.TlCaIssuesTheRequestsWord := fun s =>
  ⟨_, rfl, actCa_issuesCaWord s (caWord s.cfg.width s.inp.req.adr s.inp.req.we)⟩

/-- Settles O38: the CA action with the row's own word, whose layout `caBitsW8` or `caBitsW16` is that number. -/
theorem caRowsIssueTheirWords : Obligations.CaRowsIssueTheirWords := by
  intro s a b b'
  have h8 : ∀ r, IssuesCaWord s (runningCycle (actCa (caBitsW8 r a b)) s s.inp)
      (r.toNat * 2 ^ 47 + 2 ^ 45 + a.toNat * 2 ^ 16 + b.toNat * 2) :=
    fun r => caBitsW8_toNat r a b ▸ actCa_issuesCaWord s _
  have h16 : ∀ r, IssuesCaWord s (runningCycle (actCa (caBitsW16 r a b')) s s.inp)
      (r.toNat * 2 ^ 47 + 2 ^ 45 + a.toNat * 2 ^ 16 + b'.toNat) :=
    fun r => caBitsW16_toNat r a b' ▸ actCa_issuesCaWord s _
  have htrue : true.toNat * 2 ^ 47 + 2 ^ 45 = 2 ^ 47 + 2 ^ 45 := rfl
  have hfalse : false.toNat * 2 ^ 47 + 2 ^ 45 = 2 ^ 45 := rfl
  exact ⟨⟨_, rfl, htrue ▸ h8 true⟩, ⟨_, rfl, hfalse ▸ h8 false⟩, ⟨_, rfl, htrue ▸ h16 true⟩,
    ⟨_, rfl, hfalse ▸ h16 false⟩⟩

/-- Settles O39: the latency action writes two registers, and the shift of its cycle is made before it. -/
theorem tlLatencyReleasesDq : Obligations.TlLatencyReleasesDq := fun s =>
  ⟨_, rfl, runningCycle_freeRuns keepsFreeRunning_actLatency s, runningCycle_shiftsSr (act := actLatency) rfl,
    runningCycle_countsOn _ s _, rfl, rfl, rfl, rfl, rfl, rfl⟩

theorem actData0_startsData (s : State) (m : RwdsLines) :
    StartsData s (runningCycle (actData0 m s.inp.req) s s.inp) s.inp.req.we s.inp.req.datW m.toNat := by
  refine ⟨runningCycle_freeRuns (keepsFreeRunning_actData0 m _) s, runningCycle_countsOn _ s _, ?dqOe, ?rwdsOe,
    ?write, ?read, ?cs, ?caActive, ?ack⟩
  case dqOe => exact actData0_dqOe _ _ _
  case rwdsOe => exact actData0_rwdsOe _ _ _
  case write =>
    intro hwe
    rw [runningCycle_sr, runningCycle_rwdsO, actData0_sr, actData0_rwdsO, if_pos hwe, if_pos hwe]
    exact ⟨payloadWord_toNat _, rfl⟩
  case read =>
    intro hwe
    have hnot : ¬ s.inp.req.we = true := by rw [hwe]; decide
    refine ⟨runningCycle_shiftsSr ?_, ?_⟩
    · rw [actData0_sr, if_neg hnot]
    · rw [runningCycle_rwdsO, actData0_rwdsO, if_neg hnot, freeRun_rwdsO]
  case cs => exact actData0_cs _ _ _
  case caActive => exact actData0_caActive _ _ _
  case ack => exact actData0_ack _ _ _

/-- Settles O40: data sub-step 0 with the mask of either width. -/
theorem tlData0StartsTheData : Obligations.TlData0StartsTheData := by
  intro s
  have h8 := actData0_startsData s (maskW8 s.inp.req.sel 0)
  have h16 := actData0_startsData s (maskW16 s.inp.req.sel 0)
  rw [maskW8_toNat] at h8
  rw [maskW16_toNat] at h16
  exact ⟨⟨_, rfl, h8⟩, ⟨_, rfl, h16⟩⟩

theorem actMask_updatesMask (s : State) (m : RwdsLines) :
    UpdatesMask s (runningCycle (actMask m s.inp.req) s s.inp) s.inp.req.we m.toNat := by
  refine ⟨runningCycle_freeRuns (keepsFreeRunning_actMask m _) s, runningCycle_countsOn _ s _,
    runningCycle_shiftsSr (actMask_sr _ _ _), ?write, ?read, ?cs, ?dqOe, ?rwdsOe, ?caActive, ?ack⟩
  case write =>
    intro hwe
    rw [runningCycle_rwdsO, actMask_rwdsO, if_pos hwe]
  case read =>
    intro hwe
    rw [runningCycle_rwdsO, actMask_rwdsO, if_neg (by rw [hwe]; decide), freeRun_rwdsO]
  case cs => exact actMask_cs _ _ _
  case dqOe => exact actMask_dqOe _ _ _
  case rwdsOe => exact actMask_rwdsOe _ _ _
  case caActive => exact actMask_caActive _ _ _
  case ack => exact actMask_ack _ _ _

/-- Settles O41: a later sub-step with the mask of either width. -/
theorem tlMaskSetsTheMask : Obligations.TlMaskSetsTheMask := by
  intro s
  constructor
  · intro k
    have h8 := actMask_updatesMask s (maskW8 s.inp.req.sel k)
    rw [maskW8_toNat] at h8
    exact ⟨_, rfl, h8⟩
  · have h16 := actMask_updatesMask s (maskW16 s.inp.req.sel 1)
    rw [maskW16_toNat] at h16
    exact ⟨_, rfl, h16⟩

/-- Settles O42: the teardown writes three registers. -/
theorem tlTeardownReleasesEverything : Obligations.TlTeardownReleasesEverything := fun s =>
  ⟨_, rfl, runningCycle_freeRuns keepsFreeRunning_actTeardown s,
    runningCycle_shiftsSr (act := actTeardown) rfl, runningCycle_countsOn _ s _, rfl, rfl, rfl, rfl, rfl, rfl⟩

/-- Settles O43: each of the two rows writes `ack` alone. -/
theorem tlAckRaisesAndTlAckClrLowersAck : Obligations.TlAckRaisesAndTlAckClrLowersAck := fun s =>
  ⟨⟨_, rfl, runningCycle_freeRuns keepsFreeRunning_actAck s, runningCycle_shiftsSr (act := actAck) rfl,
      runningCycle_countsOn _ s _, rfl, rfl, rfl, rfl, rfl, rfl⟩,
    ⟨_, rfl, runningCycle_freeRuns keepsFreeRunning_actAckClr s, runningCycle_shiftsSr (act := actAckClr) rfl,
      runningCycle_countsOn _ s _, rfl, rfl, rfl, rfl, rfl, rfl⟩⟩

/-! ## The bus operations with the sequencer idle -/

/-- The cycle of an idle sequencer with the request `r` on the bus writes the counter alone (R99, R119 to
R121). -/
theorem busCycle_idle_spec (r : Request) (s : State) (hc : s.c = 0) :
    FreeRuns s (busCycle r s) ∧ ShiftsSr s (busCycle r s) ∧ KeepsControl s (busCycle r s) ∧
      (busCycle r s).c = if pending r && s.phase == 1 then 1 else 0 := by
  rw [busCycle_idle r s hc]
  obtain ⟨hfree, hshift, hkeep⟩ := freeRun_withCount s (if pending r && s.phase == 1 then 1 else 0)
  exact ⟨hfree, hshift, hkeep, rfl⟩

/-- Settles O29: neither operation is pending. -/
theorem idleOperationsTriggerNothing : Obligations.IdleOperationsTriggerNothing := fun s stb we adr d sel hc =>
  ⟨⟨_, rfl, busCycle_idle_spec ⟨false, stb, we, adr, d, sel⟩ s hc⟩,
    ⟨_, rfl, busCycle_idle_spec ⟨true, false, we, adr, d, sel⟩ s hc⟩⟩

/-- A request with `cyc = stb = 1` is pending, so the phase alone decides (R80). -/
theorem busCycle_pending_spec (r : Request) (s : State) (hc : s.c = 0) (hr : pending r = true) :
    FreeRuns s (busCycle r s) ∧ ShiftsSr s (busCycle r s) ∧ KeepsControl s (busCycle r s) ∧
      (busCycle r s).c = if s.phase = 1 then 1 else 0 := by
  have hspec := busCycle_idle_spec r s hc
  simpa only [hr, Bool.true_and, beq_iff_eq] using hspec

/-- Settles O30: both operations are pending. -/
theorem requestTriggersOnlyAtPhaseOne : Obligations.RequestTriggersOnlyAtPhaseOne := fun s adr d sel hc =>
  ⟨⟨_, rfl, busCycle_pending_spec ⟨true, true, false, adr, d, sel⟩ s hc rfl⟩,
    ⟨_, rfl, busCycle_pending_spec ⟨true, true, true, adr, d, sel⟩ s hc rfl⟩⟩

/-- Without reset a step is the cycle of the request on the bus. -/
theorem step_eq_busCycle (s : State) (h : s.inp.rst = false) : step s = .next (busCycle s.inp.req s) := by
  have hinp : ({ s.inp with rst := false, req := s.inp.req } : Inputs) = s.inp := by rw [← h]
  rw [step_of_no_reset s h, busCycle, hinp]

/-- Settles O31: the cycle of an idle sequencer with the live request on the bus. -/
theorem triggerRule : Obligations.TriggerRule := by
  intro s hrst hc
  obtain ⟨-, -, hkeep, hcount⟩ := busCycle_idle_spec s.inp.req s hc
  refine ⟨_, step_eq_busCycle s hrst, hkeep, ?_⟩
  rw [hcount]
  simp only [pending, Bool.and_eq_true, beq_iff_eq, phase_eq_one_iff, and_assoc]

/-! ## The step as the cycle of a row -/

theorem decodeBusReq_fetchWord (s : State) : decodeBusReq (fetchWord s) = requestInstr s.inp.req :=
  decodeBusReq_requestWord s.inp.req

theorem step_eq_exec (s : State) (h : s.inp.rst = false) : step s = exec (decodeBusReq (fetchWord s)) s :=
  if_neg (by rw [h]; decide)

/-- Settles O15: the fetched word is the live request's, so it decodes to the request's row. -/
theorem stepRunsTheDecodedRequest : Obligations.StepRunsTheDecodedRequest := fun s hrst =>
  ⟨step_eq_exec s hrst, decodeBusReq_fetchWord s, requestInstr_wellFormed s.inp.req s.cfg.width⟩

/-- A running timeline performs the action of its offset (R100). -/
theorem tick_running (s : State) (inp : Inputs) (hc : s.c ≠ 0) :
    tick s inp = runningCycle (actionAt s.cfg inp s.c) s inp :=
  if_neg hc

/-- The row of an entry performs the action of the entry's offset. -/
theorem exec_of_actionAt {i : Instr} {act : Request → State → State} {s : State} (hc : s.c ≠ 0)
    (hexec : exec i s = .next (timelineCycle act s))
    (haction : actionAt s.cfg s.inp s.c (freeRun s s.inp) = act s.inp.req (freeRun s s.inp)) :
    exec i s = .next (tick s s.inp) := by
  rw [hexec, tick_running s s.inp hc, timelineCycle, runningCycle, runningCycle, haction]

theorem actionAt_end (cfg : Config) (inp : Inputs) (nx : State) : actionAt cfg inp (timelineEnd cfg) nx = nx := by
  have hord := offsets_order cfg
  have hT := teardownAt_eq cfg
  rw [actionAt_none cfg inp _ nx] <;> omega

theorem exec_tlEnd {s : State} (hc : s.c = timelineEnd s.cfg) : exec .tlEnd s = .next (tick s s.inp) := by
  have hord := offsets_order s.cfg
  rw [tick_running s s.inp (by omega), hc, runningCycle, actionAt_end, hc, nextCount, if_pos rfl]
  rfl

/-- R100, R128: the row of a table entry is the cycle of the counter value it stands at. -/
theorem exec_entry {s : State} {i : Instr} (hc : s.c ≠ 0) (h : (s.c, i) ∈ timelineOffsets s.cfg) :
    exec i s = .next (tick s s.inp) := by
  have hlate := fun j => actionAt_late s.cfg s.inp (freeRun s s.inp) j
  rcases dataLen_cases s.cfg.width with ⟨hw, -⟩ | ⟨hw, -⟩
  · rw [timelineOffsets_w8 s.cfg hw] at h
    simp only [List.mem_cons, Prod.mk.injEq, List.not_mem_nil, or_false] at h
    have hmask := actionAt_mask_w8 s.cfg s.inp (freeRun s s.inp) hw
    rcases h with ⟨hk, rfl⟩ | ⟨hk, rfl⟩ | ⟨hk, rfl⟩ | ⟨hk, rfl⟩ | ⟨hk, rfl⟩ | ⟨hk, rfl⟩ | ⟨hk, rfl⟩ |
      ⟨hk, rfl⟩ | ⟨hk, rfl⟩ | ⟨hk, rfl⟩ | ⟨hk, rfl⟩
    · exact absurd hk hc
    · exact exec_of_actionAt hc rfl (hk ▸ actionAt_ca s.cfg s.inp _)
    · exact exec_of_actionAt hc rfl (hk ▸ actionAt_latency s.cfg s.inp _)
    · exact exec_of_actionAt hc rfl (hk ▸ actionAt_data0_w8 s.cfg s.inp _ hw)
    · exact exec_of_actionAt hc rfl (hk ▸ hmask 1 (by decide))
    · exact exec_of_actionAt hc rfl (hk ▸ hmask 2 (by decide))
    · exact exec_of_actionAt hc rfl (hk ▸ hmask 3 (by decide))
    · exact exec_of_actionAt hc rfl (hk ▸ hlate 0)
    · exact exec_of_actionAt hc rfl (hk ▸ hlate 2)
    · exact exec_of_actionAt hc rfl (hk ▸ hlate 3)
    · exact exec_tlEnd hk
  · rw [timelineOffsets_w16 s.cfg hw] at h
    simp only [List.mem_cons, Prod.mk.injEq, List.not_mem_nil, or_false] at h
    rcases h with ⟨hk, rfl⟩ | ⟨hk, rfl⟩ | ⟨hk, rfl⟩ | ⟨hk, rfl⟩ | ⟨hk, rfl⟩ | ⟨hk, rfl⟩ | ⟨hk, rfl⟩ |
      ⟨hk, rfl⟩ | ⟨hk, rfl⟩
    · exact absurd hk hc
    · exact exec_of_actionAt hc rfl (hk ▸ actionAt_ca s.cfg s.inp _)
    · exact exec_of_actionAt hc rfl (hk ▸ actionAt_latency s.cfg s.inp _)
    · exact exec_of_actionAt hc rfl (hk ▸ actionAt_data0_w16 s.cfg s.inp _ hw)
    · exact exec_of_actionAt hc rfl (hk ▸ actionAt_mask_w16 s.cfg s.inp _ hw)
    · exact exec_of_actionAt hc rfl (hk ▸ hlate 0)
    · exact exec_of_actionAt hc rfl (hk ▸ hlate 2)
    · exact exec_of_actionAt hc rfl (hk ▸ hlate 3)
    · exact exec_tlEnd hk

/-- R103: an offset outside the table has no action. -/
theorem actionAt_of_not_mem {cfg : Config} {k : Nat} (h : ∀ i, (k, i) ∉ timelineOffsets cfg) (inp : Inputs)
    (nx : State) : actionAt cfg inp k nx = nx := by
  have hT := teardownAt_eq cfg
  rcases dataLen_cases cfg.width with ⟨hw, hd⟩ | ⟨hw, hd⟩
  · rw [timelineOffsets_w8 cfg hw] at h
    simp only [List.mem_cons, Prod.mk.injEq, List.not_mem_nil, or_false] at h
    apply actionAt_none <;> grind
  · rw [timelineOffsets_w16 cfg hw] at h
    simp only [List.mem_cons, Prod.mk.injEq, List.not_mem_nil, or_false] at h
    apply actionAt_none <;> grind

/-- R100, R128: the counter's row is the cycle of a running timeline. -/
theorem exec_timelineRow (s : State) (hc : s.c ≠ 0) :
    exec (timelineRow s.cfg s.c) s = .next (tick s s.inp) := by
  by_cases hmem : ∃ i, (s.c, i) ∈ timelineOffsets s.cfg
  · obtain ⟨i, hi⟩ := hmem
    rw [timelineRow_of_mem hc hi]
    exact exec_entry hc hi
  · have hnot : ∀ i, (s.c, i) ∉ timelineOffsets s.cfg := not_exists.mp hmem
    rw [timelineRow_of_not_mem hnot]
    exact exec_of_actionAt hc rfl (actionAt_of_not_mem hnot s.inp _)

/-- Settles O16: the decoder answers the trigger, whose cycle is the idle one that triggers, or the counter's
row. -/
theorem stepPerformsTheTimelineRow : Obligations.StepPerformsTheTimelineRow := by
  intro s i hrst hdecode
  rw [step_of_no_reset s hrst]
  have hdecode' : decodeTimeline s.cfg (timelineSelector s) = .ok i := hdecode
  unfold decodeTimeline at hdecode'
  split at hdecode'
  next hc =>
    split at hdecode'
    next htrig =>
      obtain rfl := Except.ok.inj hdecode'
      have hc' : s.c = 0 := hc
      have htriggers : triggers s s.inp = true := by
        rw [triggers, hc']
        exact htrig
      rw [tick, if_pos hc', htriggers]
      rfl
    next => cases hdecode'
  next hc =>
    obtain rfl := Except.ok.inj hdecode'
    exact (exec_timelineRow s hc).symm

/-- Settles O17: presenting the request changes the inputs of this cycle alone. -/
theorem requestContinuesARunningTimeline : Obligations.RequestContinuesARunningTimeline := by
  intro s r hc
  rw [exec_requestInstr]
  exact (exec_timelineRow { s with stim := { s.inp with rst := false, req := r } :: s.stim.tail } hc).symm

theorem exec_requestCaInstr (w : Width) (adr : BusAddr) (we : Bool) (s : State) :
    exec (requestCaInstr w adr we) s = .next (timelineCycle (fun _ => actCa (caWord w adr we)) s) := by
  cases w <;> cases we <;> rfl

/-- Settles O18: the CA action with the word of the live request is the cycle of that word's row. -/
theorem stepIssuesTheCaRow : Obligations.StepIssuesTheCaRow := by
  intro s hrst hc
  rw [step_of_no_reset s hrst]
  exact (exec_of_actionAt (by omega) (exec_requestCaInstr _ _ _ s) (hc ▸ actionAt_ca s.cfg s.inp _)).symm

/-- R86 to R89: the request that is made for a word has the word's row. -/
theorem requestCaInstr_caWordRequest {w : Width} {x : CaWord} {i : Instr} (h : decodeCa w x = .ok i) :
    requestCaInstr w (caWordRequest w x).adr (caWordRequest w x).we = i := by
  cases w with
  | w8 =>
    obtain ⟨r, a, b, rfl, rfl⟩ := (decodeCa_w8_eq_ok_iff x i).mp h
    have hread : (caBitsW8 r a b).getLsbD 47 = r := by rw [caBitsW8_eq_caBitsW16, caBitsW16_isRead]
    have haddress : (caBitsW8 r a b).extractLsb' 16 29 = a := by
      rw [caBitsW8_eq_caBitsW16, caBitsW16_upperAddress]
    have hcolumn : (caBitsW8 r a b).extractLsb' 1 2 = b := by
      rw [caBitsW8_eq_caBitsW16, caBitsW16_columnHigh]
      exact BitVec.extractLsb'_append_eq_left
    have hupper : (0#1 ++ a ++ b).extractLsb' 2 29 = a :=
      (BitVec.extractLsb'_append_eq_of_le (by decide)).trans BitVec.extractLsb'_append_eq_right
    have hlower : (0#1 ++ a ++ b).extractLsb' 0 2 = b := BitVec.extractLsb'_append_eq_right
    rw [← caRowW8_eq_requestCaInstr]
    simp only [caWordRequest, hread, haddress, hcolumn, Bool.not_not]
    rw [hupper, hlower]
  | w16 =>
    obtain ⟨r, a, b, rfl, rfl⟩ := (decodeCa_w16_eq_ok_iff x i).mp h
    have hupper : (a ++ b).extractLsb' 3 29 = a := BitVec.extractLsb'_append_eq_left
    have hlower : (a ++ b).extractLsb' 0 3 = b := BitVec.extractLsb'_append_eq_right
    rw [← caRowW16_eq_requestCaInstr]
    simp only [caWordRequest, caBitsW16_isRead, caBitsW16_upperAddress, caBitsW16_column, Bool.not_not]
    rw [hupper, hlower]

theorem step_presentCaWord (s : State) {x : CaWord} {i : Instr} (h : decodeCa (tableWidth x) x = .ok i) :
    step (presentCaWord s x) = exec i (presentCaWord s x) := by
  rw [stepIssuesTheCaRow (presentCaWord s x) rfl rfl]
  exact congrArg (exec · (presentCaWord s x)) (requestCaInstr_caWordRequest h)

theorem step_presentRequest (s : State) (w : BusReqWord) :
    step (presentRequest s (wordRequest w)) = exec (decodeBusReq w) (presentRequest s (wordRequest w)) := by
  rw [step_eq_exec _ rfl, decodeBusReq_fetchWord]
  rfl

/-- Settles O19: a word of 48 bits is presented at offset 3, any other as a request. -/
theorem placedWordRunsNext : Obligations.PlacedWordRunsNext := by
  intro s nbits w i h
  unfold State.withFetchWord
  unfold decodeTableWord at h
  split at h
  next hbits =>
    rw [if_pos hbits]
    split at h
    next j hdecode =>
      obtain rfl := Option.some.inj h
      exact step_presentCaWord s hdecode
    next => cases h
  next hbits =>
    rw [if_neg hbits]
    obtain rfl := Option.some.inj h
    exact step_presentRequest s (BitVec.ofNat 71 w)

/-- Settles O20: every arm of `exec` answers a next state. -/
theorem everyCycleCompletes : Obligations.EveryCycleCompletes := by
  refine ⟨fun s => ⟨_, step_eq s⟩, fun i s => ?_⟩
  cases i <;> exact ⟨_, rfl⟩

/-- Settles O21: the step is the system reset. -/
theorem systemResetClearsEveryRegister : Obligations.SystemResetClearsEveryRegister := fun s hrst =>
  ⟨_, step_of_reset s hrst, rfl, rfl, rfl, rfl, rfl, rfl, rfl, rfl, rfl, rfl, rfl, rfl, rfl, rfl, rfl⟩

/-! ## The free-running components of a step -/

theorem tick_freeRuns (s : State) : FreeRuns s (tick s s.inp) := by
  obtain ⟨hcfg, hphase, hclk, hdqi, hstim, hcycle⟩ := tick_free s s.inp
  have hfree := freeRun_freeRuns s
  unfold FreeRuns at hfree ⊢
  rwa [hcfg, hphase, hclk, hdqi, hstim, hcycle]

/-- Settles O26: no action touches them. -/
theorem freeRunningComponents : Obligations.FreeRunningComponents := fun s hrst =>
  ⟨_, step_of_no_reset s hrst, tick_freeRuns s⟩

/-- R93: a cycle that loads nothing shifts. -/
theorem tick_shiftsSr (s : State) (inp : Inputs) (hca : s.c ≠ 3)
    (hdata : ¬ (s.c = dataStart s.cfg ∧ inp.req.we = true)) : ShiftsSr s (tick s inp) := by
  have hfree := freeRun_shiftsSr s inp
  unfold ShiftsSr at hfree ⊢
  rwa [tick_sr, if_neg hca, if_neg hdata]

/-- Settles O27: the three cases of `tick_sr`. -/
theorem shiftRegisterLoadsOrShifts : Obligations.ShiftRegisterLoadsOrShifts := by
  intro s hrst
  refine ⟨_, step_of_no_reset s hrst, ?_⟩
  split
  next hca => rw [tick_sr, if_pos hca]
  next hca =>
    split
    next hdata => rw [tick_sr, if_neg hca, if_pos hdata, payloadWord_toNat]
    next hdata => exact tick_shiftsSr s s.inp hca hdata

/-- A shift never takes more bits than the sample has. -/
theorem shiftWidth_dvd_widthBits (s : State) : 2 ^ shiftWidth s ∣ 2 ^ widthBits s.cfg.width := by
  apply Nat.pow_dvd_pow
  unfold shiftWidth
  cases s.caActive <;> cases s.cfg.width <;> decide

theorem shiftWidth_le (s : State) : shiftWidth s ≤ 48 := by
  unfold shiftWidth
  cases s.caActive <;> cases s.cfg.width <;> decide

/-- After a shift the low bits of `sr` are the sample's. -/
theorem ShiftsSr.low_bits {s t : State} (h : ShiftsSr s t) (heven : s.phase.toNat % 2 = 0) :
    t.sr.toNat % 2 ^ shiftWidth s = s.dqi.toNat % 2 ^ shiftWidth s := by
  unfold ShiftsSr at h
  rw [h, if_pos heven, Nat.mod_mod_of_dvd _ (Nat.pow_dvd_pow 2 (shiftWidth_le s)), Nat.mul_add_mod_self_right,
    Nat.mod_mod]

/-- Settles O28: the first cycle samples the lines, and the second, of even phase, shifts the sample in. -/
theorem shiftBringsInTheLastSample : Obligations.ShiftBringsInTheLastSample := by
  intro s hrst hodd
  have hcfg := tick_cfg s s.inp
  obtain ⟨hstim, hcycle⟩ : (tick s s.inp).stim = s.stim.tail ∧ (tick s s.inp).cycle = s.cycle + 1 := by
    obtain ⟨-, -, -, -, hstim, hcycle⟩ := tick_free s s.inp
    exact ⟨hstim, hcycle⟩
  have hinp : (tick s s.inp).inp = s.inputAt 1 := inputAt_of_next s _ hstim hcycle 0
  refine ⟨_, _, step_of_no_reset s (hrst 0 (by decide)),
    step_of_no_reset _ (by rw [hinp]; exact hrst 1 (by decide)), fun hca hdata => ?_⟩
  have hshift := tick_shiftsSr (tick s s.inp) (tick s s.inp).inp hca (by rwa [hinp, hcfg])
  have heven : (tick s s.inp).phase.toNat % 2 = 0 := by rw [tick_phase_toNat]; omega
  have hdvd := shiftWidth_dvd_widthBits (tick s s.inp)
  rw [hcfg] at hdvd
  rw [hshift.low_bits heven, tick_dqi, sampleDq_toNat, Nat.mod_mod_of_dvd _ hdvd]

/-! ## What a cycle does not depend on -/

/-- R50: a read's actions use neither the payload nor the selects. -/
theorem actionAt_of_read (cfg : Config) {inp inp' : Inputs} (k : Nat) (nx : State)
    (hadr : inp'.req.adr = inp.req.adr) (hwe : inp.req.we = false) (hwe' : inp'.req.we = false) :
    actionAt cfg inp' k nx = actionAt cfg inp k nx := by
  simp only [actionAt, actData0, actMask, hadr, hwe, hwe', Bool.false_eq_true, if_false]

theorem tick_of_read (s : State) {inp inp' : Inputs} (hpending : pending inp'.req = pending inp.req)
    (hadr : inp'.req.adr = inp.req.adr) (hwe : inp.req.we = false) (hwe' : inp'.req.we = false)
    (hdq : inp'.dqIn = inp.dqIn) : tick s inp' = tick s inp := by
  have hfree : freeRun s inp' = freeRun s inp := by unfold freeRun; rw [hdq]
  have hcount : countAfter s inp' = countAfter s inp := by unfold countAfter triggers; rw [hpending]
  rw [tick_eq_actionAt, tick_eq_actionAt, hfree, hcount, actionAt_of_read s.cfg s.c _ hadr hwe hwe']

/-- Settles O33: trigger, address and direction are the same. -/
theorem readIgnoresPayloadAndSelects : Obligations.ReadIgnoresPayloadAndSelects := fun s _ _ _ _ _ =>
  congrArg Host.Outcome.next (tick_of_read s rfl rfl rfl rfl rfl)

/-- Settles O34: a step uses `rst`, the request and `dq_in` of its inputs. -/
theorem rwdsInputIsNeverRead : Obligations.RwdsInputIsNeverRead := by
  intro s i rest x
  rw [step_eq, step_eq]
  rfl

/-- Settles O35: only the trigger reads `cyc` and `stb`, and a running timeline does not trigger. -/
theorem runningTimelineIgnoresCycAndStb : Obligations.RunningTimelineIgnoresCycAndStb := by
  intro s i rest cyc stb hc
  have htick : ∀ inp, tick { s with stim := inp :: rest } inp =
      runningCycle (actionAt s.cfg inp s.c) { s with stim := inp :: rest } inp :=
    fun inp => tick_running { s with stim := inp :: rest } inp hc
  have hstep : ∀ inp : Inputs, step { s with stim := inp :: rest } =
      .next (if inp.rst then systemReset { s with stim := inp :: rest }
        else runningCycle (actionAt s.cfg inp s.c) { s with stim := inp :: rest } inp) :=
    fun inp => htick inp ▸ step_eq { s with stim := inp :: rest }
  exact (hstep i).trans (hstep { i with req := { i.req with cyc := cyc, stb := stb } }).symm

end Sys2Proof.Machine
end

section
/-! The outputs of a cycle in arithmetic, the construction checks in their order, and the script master. -/

namespace Sys2Proof.Machine

/-! ## Outputs -/

theorem dqO_toNat (s : State) :
    (dqO s).toNat = if s.caActive = true ∨ s.cfg.width = .w8 then s.sr.toNat / 2 ^ 40
      else s.sr.toNat / 2 ^ 32 := by
  have htop : ∀ n m, n + m = 48 → (s.sr.extractLsb' n m).toNat = s.sr.toNat / 2 ^ n := by
    intro n m hnm
    rw [BitVec.extractLsb'_toNat, Nat.shiftRight_eq_div_pow, Nat.mod_eq_of_lt]
    rw [Nat.div_lt_iff_lt_mul (Nat.two_pow_pos n), ← pow_add, Nat.add_comm, hnm]
    exact s.sr.isLt
  have hbyte : (0#8 ++ s.sr.extractLsb' 40 8).toNat = s.sr.toNat / 2 ^ 40 :=
    (toNat_concat (0#8) _).trans (by rw [htop 40 8 rfl]; exact (Nat.zero_mul _).symm ▸ Nat.zero_add _)
  unfold dqO
  cases s.caActive with
  | true => exact hbyte
  | false =>
    cases s.cfg.width with
    | w8 => exact hbyte
    | w16 => exact htop 32 16 rfl

/-- Settles O54: `dq_o` is the top of `sr`, a byte or 16 bits of it. -/
theorem dqPinsOfEachMode : Obligations.DqPinsOfEachMode := by
  intro s
  refine ⟨fun hoe => if_neg (by rw [hoe]; decide), fun hoe => ⟨dqO s, if_pos hoe, dqO_toNat s⟩⟩

/-- Settles O55: each output is its register, and `dat_r` the low 32 bits of `sr`. -/
theorem outputsFollowTheRegisters : Obligations.OutputsFollowTheRegisters := by
  intro s
  refine ⟨rfl, fun hncs => ?one, fun hncs => ?two, rfl, rfl, rfl, ?datR⟩
  case one => show csPins s = _; rw [csPins, hncs]
  case two => show csPins s = _; rw [csPins, hncs]
  case datR => exact BitVec.extractLsb'_toNat 0 32 s.sr

/-- Settles O56: the pin is a constant of the parameters. -/
theorem deviceResetPinStaysHigh : Obligations.DeviceResetPinStaysHigh := fun _ => rfl

/-! ## Construction -/

theorem checkWidth_supported {w : Int} (h : w = 8 ∨ w = 16) :
    ∃ v, checkWidth w = .ok v ∧ (widthBits v : Int) = w := by
  rcases h with rfl | rfl
  · exact ⟨.w8, rfl, rfl⟩
  · exact ⟨.w16, rfl, rfl⟩

theorem checkLatency_refused {l : Rat} (h : l.den ≠ 1 ∨ l < 1) : checkLatency l = .error (.badLatency l) := by
  refine if_neg fun ⟨hden, hnum⟩ => ?_
  rcases h with hden' | hlt
  · exact hden' hden
  · rw [← (Rat.den_eq_one_iff l).mp hden] at hlt
    exact absurd hnum (Int.not_le.mpr (by exact_mod_cast hlt))

theorem checkLatency_legal {l : Rat} (hden : l.den = 1) (hle : 1 ≤ l) :
    ∃ n, checkLatency l = .ok n ∧ ((n + 1 : Nat) : Rat) = l := by
  have hl := (Rat.den_eq_one_iff l).mp hden
  have hnum : 1 ≤ l.num := by
    rw [← hl] at hle
    exact_mod_cast hle
  refine ⟨_, if_pos ⟨hden, hnum⟩, ?_⟩
  have hcount : ((l.num.toNat - 1 + 1 : Nat) : Int) = l.num := by omega
  rw [← Int.cast_natCast, hcount, hl]

theorem checkNcs_unsupported {n : Int} (h1 : n ≠ 1) (h2 : n ≠ 2) : checkNcs n = .error (.badNcs n) := by
  rw [checkNcs, if_neg h1, if_neg h2]

theorem checkNcs_supported {n : Int} (h : n = 1 ∨ n = 2) :
    ∃ v, checkNcs n = .ok v ∧ (v = .one ↔ n = 1) := by
  rcases h with rfl | rfl
  · exact ⟨.one, rfl, by decide⟩
  · exact ⟨.two, rfl, by decide⟩

/-- Settles O59: the checks in their order, each with the earlier ones passed. -/
theorem constructionChecksInOrder : Obligations.ConstructionChecksInOrder := by
  refine ⟨fun _ => rfl, fun p hwidth => ?_⟩
  obtain ⟨w, hw, hbits⟩ := checkWidth_supported hwidth
  refine ⟨fun hlatency => ⟨?_, rfl⟩, fun hden hle hone htwo => ⟨?_, rfl⟩, fun hden hle hncs => ?_⟩
  · apply construct_of_buildConfig_error
    rw [buildConfig, hw, checkLatency_refused hlatency]
  · obtain ⟨l, hl, -⟩ := checkLatency_legal hden hle
    apply construct_of_buildConfig_error
    rw [buildConfig, hw, hl, checkNcs_unsupported hone htwo]
  · obtain ⟨l, hl, hlat⟩ := checkLatency_legal hden hle
    obtain ⟨n, hn, hone⟩ := checkNcs_supported hncs
    refine ⟨⟨w, l, n, p.hasRstN, p.clkDiff⟩, ?_, hbits, hlat, hone, rfl, rfl⟩
    rw [construct, buildConfig, hw, hl, hn]

/-! ## The script master -/

theorem started_succ {start : Option Nat} {now : Nat} (h : started start now = true) :
    started start (now + 1) = true := by
  cases start with
  | none => rfl
  | some n =>
    have hle : n ≤ now := of_decide_eq_true h
    exact decide_eq_true (Nat.le_succ_of_le hle)

/-- A master that presents a request is at a started line, which is its request until `ack`. -/
theorem masterRequest_pending {m : Master} (h : pending (masterRequest m) = true) :
    (∃ start adr rest, skipEmpty m.lines = .rd start adr :: rest ∧ started start m.now = true) ∨
    (∃ start adr d sel rest, skipEmpty m.lines = .wr start adr d sel :: rest ∧
      started start m.now = true) := by
  unfold masterRequest at h
  split at h
  next start adr rest hline =>
    split at h
    next hstarted => exact .inl ⟨start, adr, rest, hline, hstarted⟩
    next => cases h
  next start adr d sel rest hline =>
    split at h
    next hstarted => exact .inr ⟨start, adr, d, sel, rest, hline, hstarted⟩
    next => cases h
  next => cases h
  next => cases h
  next => cases h

/-- Settles O60: without `ack` the line stays first, and it stays started. -/
theorem scriptMasterHoldsItsRequest : Obligations.ScriptMasterHoldsItsRequest := by
  intro m hpending
  rcases masterRequest_pending hpending with ⟨start, adr, rest, hline, hstarted⟩ |
    ⟨start, adr, d, sel, rest, hline, hstarted⟩
  · have hnext : masterNext m false = ⟨.rd start adr :: rest, m.now + 1⟩ := by
      simp only [masterNext, hline, Bool.and_false, Bool.false_eq_true, if_false]
    have hskip : skipEmpty (.rd start adr :: rest) = .rd start adr :: rest := rfl
    rw [hnext]
    simp only [masterRequest, hskip, hline, started_succ hstarted, hstarted, if_true]
  · have hnext : masterNext m false = ⟨.wr start adr d sel :: rest, m.now + 1⟩ := by
      simp only [masterNext, hline, Bool.and_false, Bool.false_eq_true, if_false]
    have hskip : skipEmpty (.wr start adr d sel :: rest) = .wr start adr d sel :: rest := rfl
    rw [hnext]
    simp only [masterRequest, hskip, hline, started_succ hstarted, hstarted, if_true]

end Sys2Proof.Machine
end

section
/-! Runs of many cycles: the wait for phase 1, and one transaction from its trigger cycle on. -/

namespace Sys2Proof.Machine

/-! ## Runs -/

/-- A run without reset grows by one `tick`, with the inputs the first state was given for that cycle. -/
theorem reachesIn_tick {s t : State} {j : Nat} (h : ReachesIn j s t) (hrst : (s.inputAt j).rst = false) :
    ReachesIn (j + 1) s (tick t (s.inputAt j)) := by
  obtain ⟨-, hinputs⟩ := reachesIn_inputs j s t h
  have hinp : t.inp = s.inputAt j := hinputs 0
  exact reachesIn_succ j s t _ h (by rw [step_of_no_reset t (by rw [hinp, hrst]), hinp])

theorem tick_c_of_idle {s : State} (hc : s.c = 0) (inp : Inputs) :
    (tick s inp).c = if pending inp.req = true ∧ s.phase.toNat = 1 then 1 else 0 := by
  rw [tick_c, countAfter, if_pos hc]
  simp only [triggers, hc, beq_self_eq_true, Bool.true_and, Bool.and_eq_true, beq_iff_eq, phase_eq_one_iff]

/-- Settles O32: up to the trigger cycle the sequencer is idle and the phase counts up to 1. -/
theorem requestWaitsForPhaseOne : Obligations.RequestWaitsForPhaseOne := by
  intro s hc hrst hpending
  have hlt := s.phase.isLt
  have hwait : ∀ k, k ≤ (5 - s.phase.toNat) % 4 →
      ∃ t, ReachesIn k s t ∧ t.c = 0 ∧ t.phase.toNat = (s.phase.toNat + k) % 4 := by
    refine reachesIn_induct (fun k t => t.c = 0 ∧ t.phase.toNat = (s.phase.toNat + k) % 4) _ s
      (fun k hk => hrst k (by omega)) ⟨hc, by omega⟩ ?_
    rintro k t hk - ⟨hidle, hphase⟩
    rw [tick_c_of_idle hidle, tick_phase_toNat, if_neg (by omega)]
    omega
  refine ⟨fun k hk => ?before, ?trigger⟩
  case before =>
    obtain ⟨t, ht, hidle, -⟩ := hwait k hk
    exact ⟨t, ht, hidle⟩
  case trigger =>
    obtain ⟨t, ht, hidle, hphase⟩ := hwait _ le_rfl
    refine ⟨_, reachesIn_tick ht (hrst _ (by omega)), ?_⟩
    rw [tick_c_of_idle hidle, if_pos ⟨hpending _ le_rfl, by omega⟩]

/-! ## One transaction -/

/-- `t` is the state `j` cycles after the trigger cycle `s` of a transaction: where the counter and the phase stand,
and what the actions of the offsets before `j` have left in the control registers. -/
structure InTransaction (s : State) (j : Nat) (t : State) : Prop where
  cfg : t.cfg = s.cfg
  count : t.c = if j ≤ timelineEnd s.cfg then j else 0
  phase : t.phase.toNat = (j + 1) % 4
  cs : 4 ≤ j → (t.cs = true ↔ j ≤ teardownAt s.cfg)
  caActive : 4 ≤ j → (t.caActive = true ↔ j ≤ 15)
  rwdsOe : dataStart s.cfg + 1 ≤ j →
    (t.rwdsOe = true ↔ (s.inputAt (dataStart s.cfg)).req.we = true ∧ j ≤ teardownAt s.cfg)
  dqOe : 4 ≤ j → (t.dqOe = true ↔ j ≤ 15 ∨
    (s.inputAt (dataStart s.cfg)).req.we = true ∧ dataStart s.cfg + 1 ≤ j ∧ j ≤ teardownAt s.cfg)
  ack : j = teardownAt s.cfg + 3 → t.ack = true

theorem TriggerCycle.inTransaction {s : State} (h : TriggerCycle s) : InTransaction s 0 s := by
  obtain ⟨hc, hphase, -⟩ := h
  have hp : s.phase.toNat = 1 := (phase_eq_one_iff _).mp hphase
  refine ⟨rfl, ?_, hp, ?_, ?_, ?_, ?_, ?_⟩ <;> simp [hc]

theorem InTransaction.countAfter_eq {s t : State} {j : Nat} (htrig : TriggerCycle s) (h : InTransaction s j t)
    (hj : j ≤ timelineEnd s.cfg) :
    countAfter t (s.inputAt j) = if j + 1 ≤ timelineEnd s.cfg then j + 1 else 0 := by
  have hcount : t.c = j := h.count.trans (if_pos hj)
  by_cases hj0 : j = 0
  · subst hj0
    have hE := timelineEnd_eq s.cfg
    have hpending : pending (s.inputAt 0).req = true := htrig.2.2
    rw [← tick_c, tick_c_of_idle hcount, if_pos ⟨hpending, h.phase⟩, if_pos (by omega)]
  · have hcfg := h.cfg
    rw [countAfter, if_neg (by omega), nextCount, hcount, hcfg]
    split_ifs <;> omega

theorem InTransaction.tick {s t : State} {j : Nat} (htrig : TriggerCycle s) (h : InTransaction s j t)
    (hj : j ≤ timelineEnd s.cfg) : InTransaction s (j + 1) (tick t (s.inputAt j)) := by
  have hord := offsets_order s.cfg
  have hcfg := h.cfg
  have hcount : t.c = j := h.count.trans (if_pos hj)
  constructor
  case cfg => rw [tick_cfg, hcfg]
  case count => rw [tick_c, h.countAfter_eq htrig hj]
  case phase =>
    have hphase := h.phase
    rw [tick_phase_toNat]; omega
  case cs =>
    have hcs := h.cs
    rw [tick_cs, hcount, hcfg]; grind
  case caActive =>
    have hca := h.caActive
    rw [tick_caActive, hcount]; grind
  case rwdsOe =>
    have hrwdsOe := h.rwdsOe
    rw [tick_rwdsOe, hcount, hcfg]; grind
  case dqOe =>
    have hdqOe := h.dqOe
    rw [tick_dqOe, hcount, hcfg]; grind
  case ack =>
    have hack := h.ack
    rw [tick_ack, hcount, hcfg]; grind

/-- Induction along a transaction: the state of every cycle is `InTransaction`, and a property that the start has
and each such cycle passes on holds as well. -/
theorem transaction_induct {s : State} {n : Nat} (Q : Nat → State → Prop) (htrig : TriggerCycle s)
    (hrst : NoReset s n) (hn : n ≤ period s.cfg) (h0 : Q 0 s)
    (hstep : ∀ j t, j < n → InTransaction s j t → t.c = j → Q j t → Q (j + 1) (tick t (s.inputAt j))) :
    ∀ j, j ≤ n → ∃ t, ReachesIn j s t ∧ InTransaction s j t ∧ Q j t := by
  refine reachesIn_induct (fun j t => InTransaction s j t ∧ Q j t) n s hrst ⟨htrig.inTransaction, h0⟩ ?_
  rintro j t hj - ⟨ht, hq⟩
  have hle : j ≤ timelineEnd s.cfg := Nat.le_of_lt_succ (hj.trans_le hn)
  exact ⟨ht.tick htrig hle, hstep j t hj ht (ht.count.trans (if_pos hle)) hq⟩

theorem transaction_reaches {s : State} {n : Nat} (htrig : TriggerCycle s) (hrst : NoReset s n)
    (hn : n ≤ period s.cfg) : ∀ j, j ≤ n → ∃ t, ReachesIn j s t ∧ InTransaction s j t := by
  intro j hj
  obtain ⟨t, ht, hin, -⟩ := transaction_induct (fun _ _ => True) htrig hrst hn trivial
    (fun _ _ _ _ _ _ => trivial) j hj
  exact ⟨t, ht, hin⟩

/-- Settles O44: the counter is the offset up to `E` and then 0, at phase 1 once more. -/
theorem timelineRunsToItsEnd : Obligations.TimelineRunsToItsEnd := by
  intro s htrig hrst
  have hord := offsets_order s.cfg
  have hrun := transaction_reaches htrig hrst le_rfl
  have hP : period s.cfg = timelineEnd s.cfg + 1 := rfl
  obtain ⟨t, ht, hin⟩ := hrun (period s.cfg) le_rfl
  have hidle : t.c = 0 := hin.count.trans (if_neg (by omega))
  have hphase : t.phase.toNat = 1 := by rw [hin.phase]; omega
  refine ⟨fun j _ hj => ?running, ⟨t, ht, hidle, (phase_eq_one_iff _).mpr hphase⟩, fun hrst' => ?next⟩
  case running =>
    obtain ⟨u, hu, hinu⟩ := hrun j (by omega)
    exact ⟨u, hu, hinu.count.trans (if_pos hj)⟩
  case next =>
    refine ⟨_, reachesIn_tick ht hrst', ?_⟩
    rw [tick_c_of_idle hidle]
    simp only [hphase, and_true]

/-! ### Under the invariants -/

/-- From a state that meets the invariants, every state of the transaction does. -/
theorem transaction_inv {s : State} (hinv : Inv s) (htrig : TriggerCycle s) (hrst : NoReset s (period s.cfg)) :
    ∀ j, j ≤ period s.cfg → ∃ t, ReachesIn j s t ∧ InTransaction s j t ∧ Inv t :=
  transaction_induct (fun _ t => Inv t) htrig hrst le_rfl hinv (fun _ _ _ _ _ h => tick_inv h _)

/-- Settles O45: by item 5 of R132 `ack` is 1 exactly at counter value `E - 1`. -/
theorem ackInExactlyOneCycle : Obligations.AckInExactlyOneCycle := by
  intro s hinv htrig hrst j hj
  have hord := offsets_order s.cfg
  obtain ⟨t, ht, hin, hinvt⟩ := transaction_inv hinv htrig hrst j hj
  refine ⟨t, ht, ?_⟩
  have hack := hinvt.ack
  rw [hin.cfg, hin.count] at hack
  refine hack.trans ?_
  by_cases hle : j ≤ timelineEnd s.cfg
  · rw [if_pos hle]; omega
  · rw [if_neg hle]; omega

/-- Settles O50: by item 7 of R132, with the phase of each offset. -/
theorem deviceClockOfATransaction : Obligations.DeviceClockOfATransaction := by
  intro s hinv htrig hrst j hj
  have hord := offsets_order s.cfg
  obtain ⟨t, ht, hin, hinvt⟩ := transaction_inv hinv htrig hrst j hj
  refine ⟨t, ht, ?_⟩
  rw [hinvt.clk, hin.cfg, hin.count, hin.phase]
  split_ifs <;> omega

theorem dqPins_isSome (s : State) : (pins s).dq.isSome = s.dqOe := by
  show (dqPins s).isSome = _
  unfold dqPins
  cases s.dqOe <;> rfl

theorem rwdsPins_isSome (s : State) : (pins s).rwds.isSome = s.rwdsOe := by
  show (rwdsPins s).isSome = _
  unfold rwdsPins
  cases s.rwdsOe <;> rfl

/-- Settles O51: the transaction fixes both enables once its actions have written them, and before that the
invariants do. -/
theorem busTurnaround : Obligations.BusTurnaround := by
  intro s hinv htrig hrst j hj
  have hord := offsets_order s.cfg
  have hP : period s.cfg = timelineEnd s.cfg + 1 := rfl
  obtain ⟨t, ht, hin, hinvt⟩ := transaction_inv hinv htrig hrst j hj
  refine ⟨t, ht, ?_⟩
  rw [dqPins_isSome, rwdsPins_isSome]
  have hrwds := hinvt.rwdsOe
  have hdq := hinvt.dqOe
  rw [hin.cfg, hin.count] at hrwds
  rw [hin.count] at hdq
  have hbefore : j ≤ dataStart s.cfg → t.rwdsOe = false := by grind
  constructor
  · by_cases hdata : dataStart s.cfg + 1 ≤ j
    · rw [hin.rwdsOe hdata]
      simp only [hdata, true_and]
    · rw [hbefore (by omega)]
      grind
  · by_cases hca : 4 ≤ j
    · rw [hin.dqOe hca]
      simp only [hca, true_and]
    · rw [hdq, hbefore (by omega), if_pos (by omega)]
      grind

end Sys2Proof.Machine
end

section
/-! The data of a transaction: the CA word and the payload on the wire, the samples of a read, and the two put together
under the device contract. -/

namespace Sys2Proof.Machine

/-! ## The shift register on the wire

A word loaded into `sr` goes out from the top: after shifts of `n` bits in all, its bits stand `n` places higher. -/

/-- The bits of `x` that shifts of `n` bits have not pushed out stand `n` places higher in `sr`. -/
def ShiftedUp (n : Nat) (x sr : CaWord) : Prop := ∀ i, i + n < 48 → sr.getLsbD (i + n) = x.getLsbD i

theorem ShiftedUp.refl (x : CaWord) : ShiftedUp 0 x x := fun _ _ => rfl

theorem ShiftedUp.shift8 {n : Nat} {x sr : CaWord} (h : ShiftedUp n x sr) (dqi : DqLines) :
    ShiftedUp (n + 8) x (shift8 sr dqi) := by
  intro i hi
  rw [Machine.shift8, BitVec.getLsbD_append, if_neg (by omega), BitVec.getLsbD_extractLsb',
    ← h i (by omega)]
  have hlow : i + (n + 8) - 8 = i + n := by omega
  rw [hlow, Nat.zero_add, decide_eq_true (by omega : i + n < 40), Bool.true_and]

theorem ShiftedUp.shift16 {n : Nat} {x sr : CaWord} (h : ShiftedUp n x sr) (dqi : DqLines) :
    ShiftedUp (n + 16) x (shift16 sr dqi) := by
  intro i hi
  rw [Machine.shift16, BitVec.getLsbD_append, if_neg (by omega), BitVec.getLsbD_extractLsb',
    ← h i (by omega)]
  have hlow : i + (n + 16) - 16 = i + n := by omega
  rw [hlow, Nat.zero_add, decide_eq_true (by omega : i + n < 32), Bool.true_and]

theorem ShiftedUp.shiftedSr {n : Nat} {x : CaWord} {s : State} (h : ShiftedUp n x s.sr) :
    ShiftedUp (n + shiftWidth s) x (shiftedSr s) := by
  unfold Machine.shiftedSr shiftWidth
  cases s.caActive with
  | true => exact h.shift8 s.dqi
  | false =>
    cases s.cfg.width with
    | w8 => exact h.shift8 s.dqi
    | w16 => exact h.shift16 s.dqi

/-- A slice of the loaded word is found `n` places higher. -/
theorem ShiftedUp.extract {n : Nat} {x sr : CaWord} (h : ShiftedUp n x sr) (start len : Nat)
    (hfit : start + n + len ≤ 48) : sr.extractLsb' (start + n) len = x.extractLsb' start len := by
  apply BitVec.eq_of_getLsbD_eq
  intro i hi
  have hplace : start + n + i = start + i + n := by omega
  rw [BitVec.getLsbD_extractLsb', BitVec.getLsbD_extractLsb', hplace, h (start + i) (by omega)]

/-- A cycle that loads nothing shifts by `shiftWidth` in an even phase, and not at all in an odd one. -/
theorem ShiftedUp.tick {n m : Nat} {x : CaWord} {s : State} (h : ShiftedUp n x s.sr) (inp : Inputs)
    (hca : s.c ≠ 3) (hdata : s.c ≠ dataStart s.cfg)
    (hm : m = if s.phase.toNat % 2 = 0 then n + shiftWidth s else n) : ShiftedUp m x (tick s inp).sr := by
  rw [tick_sr, if_neg hca, if_neg (fun hd => hdata hd.1), evenPhase_eq, hm]
  simp only [decide_eq_true_eq]
  split
  · exact h.shiftedSr
  · exact h

/-! ### The CA bytes -/

theorem csPins_head (s : State) : (pins s).csN.head? = some (!s.cs) := by
  show (csPins s).head? = _
  unfold csPins
  cases s.cfg.ncs <;> rfl

theorem dqPins_driven {s : State} (h : s.dqOe = true) : (pins s).dq = some (dqO s) := if_pos h

theorem dqPins_released {s : State} (h : s.dqOe = false) : (pins s).dq = none := if_neg (by rw [h]; decide)

theorem rwdsPins_driven {s : State} (h : s.rwdsOe = true) : (pins s).rwds = some s.rwdsO := if_pos h

theorem rwdsPins_released {s : State} (h : s.rwdsOe = false) : (pins s).rwds = none :=
  if_neg (by rw [h]; decide)

/-- The CA word of a transaction: that of the request in cycle `T + 3` (D17). -/
def issuedWord (s : State) : CaWord := caWord s.cfg.width (s.inputAt 3).req.adr (s.inputAt 3).req.we

/-- From its load in cycle `T + 3` on, the CA word goes out one byte every two cycles. -/
theorem transaction_caWord {s : State} (htrig : TriggerCycle s) (hrst : NoReset s 16) :
    ∀ j, j ≤ 16 → ∃ t, ReachesIn j s t ∧ InTransaction s j t ∧
      (4 ≤ j → ShiftedUp (8 * ((j - 4) / 2)) (issuedWord s) t.sr) := by
  have hord := offsets_order s.cfg
  have hP : period s.cfg = timelineEnd s.cfg + 1 := rfl
  refine transaction_induct (fun j t => 4 ≤ j → ShiftedUp (8 * ((j - 4) / 2)) (issuedWord s) t.sr) htrig hrst
    (by omega) (by omega) ?_
  intro j t hj hin hcount hsr hj4
  have hcfg := hin.cfg
  by_cases hload : j = 3
  · subst hload
    rw [tick_sr, if_pos hcount, hcfg]
    exact ShiftedUp.refl _
  · have hwidth : shiftWidth t = 8 := if_pos ((hin.caActive (by omega)).mpr (by omega))
    have hphase := hin.phase
    refine (hsr (by omega)).tick _ (by omega) (by rw [hcfg]; omega) ?_
    rw [hwidth]
    split <;> omega

/-- Settles O46: after `k` shifts the top byte of `sr` is byte `k` of the word. -/
theorem caBytesOnTheWire : Obligations.CaBytesOnTheWire := by
  intro s htrig hrst k hk e he
  obtain ⟨t, ht, hin, hsr⟩ := transaction_caWord htrig hrst (4 + 2 * k + e) (by omega)
  have hord := offsets_order s.cfg
  have hcs : t.cs = true := (hin.cs (by omega)).mpr (by omega)
  have hdq : t.dqOe = true := (hin.dqOe (by omega)).mpr (.inl (by omega))
  have hca : t.caActive = true := (hin.caActive (by omega)).mpr (by omega)
  have hshift : (4 + 2 * k + e - 4) / 2 = k := by omega
  have hsr' := hsr (by omega)
  rw [hshift] at hsr'
  have hbyte : t.sr.extractLsb' 40 8 = caByte (issuedWord s) k := by
    have := hsr'.extract (40 - 8 * k) 8 (by omega)
    rwa [Nat.sub_add_cancel (by omega)] at this
  refine ⟨t, ht, by rw [csPins_head, hcs]; rfl, ?_⟩
  rw [dqPins_driven hdq, dqO, if_pos hca, hbyte]
  rfl

/-! ### The data of a held WRITE -/

/-- A request held from an idle cycle of phase 1 on makes that cycle a trigger cycle. -/
theorem HoldsRequest.triggerCycle {s : State} {r : Request} (h : HoldsRequest s (timelineEnd s.cfg) r)
    (hc : s.c = 0) (hphase : s.phase = 1) (hr : pending r = true) : TriggerCycle s := by
  have hE := timelineEnd_eq s.cfg
  have hreq : s.inp.req = r := h 0 (by omega)
  exact ⟨hc, hphase, by rw [hreq, hr]⟩

/-- Past the latency action the mode is the data mode, whose shifts are `W` bits wide (R93). -/
theorem InTransaction.shiftWidth_data {s t : State} {j : Nat} (h : InTransaction s j t) (hj : 16 ≤ j) :
    shiftWidth t = widthBits s.cfg.width := by
  have hca : ¬ t.caActive = true := fun hca => by have := (h.caActive (by omega)).mp hca; omega
  rw [shiftWidth, if_neg hca, h.cfg]

/-- The number of the data sub-step whose effect stands `j` cycles after the trigger: two cycles for each, from
`S + 1` on. -/
def substepOf (cfg : Config) (j : Nat) : Nat := (j - dataStart cfg - 1) / 2

/-- `t` shows sub-step `k` of a WRITE of `r`: the payload has gone up by `k` shifts, and the mask is that of the
sub-step. -/
structure CarriesPayload (r : Request) (k : Nat) (t : State) : Prop where
  sr : ShiftedUp (widthBits t.cfg.width * k) (payloadWord r.datW) t.sr
  mask : t.rwdsO = substepMask t.cfg.width r.sel k

/-- Sub-step 0 loads the payload and sets its mask (R106, R108). -/
theorem carriesPayload_of_load {t : State} {inp : Inputs} (hc : t.c = dataStart t.cfg)
    (hwe : inp.req.we = true) : CarriesPayload inp.req 0 (tick t inp) := by
  have hord := offsets_order t.cfg
  have hsub : IsSubstep t.cfg t.c := ⟨hc.ge, by omega, by omega⟩
  constructor
  · rw [tick_sr, if_neg (by omega), if_pos ⟨hc, hwe⟩, Nat.mul_zero]
    exact ShiftedUp.refl _
  · rw [tick_rwdsO_of_substep t inp hsub, if_pos hwe, tick_cfg, hc, Nat.sub_self]

/-- Every second cycle of the data phase shifts, and sets the mask of the next sub-step (R107, R109). -/
theorem CarriesPayload.tick {s t : State} {inp : Inputs} {j : Nat} (hin : InTransaction s j t) (hcount : t.c = j)
    (hlo : dataStart s.cfg + 1 ≤ j) (hhi : j < teardownAt s.cfg) (hwe : inp.req.we = true)
    (h : CarriesPayload inp.req (substepOf s.cfg j) t) :
    CarriesPayload inp.req (substepOf s.cfg (j + 1)) (tick t inp) := by
  have hord := offsets_order s.cfg
  have hcfg := hin.cfg
  have hphase := hin.phase
  obtain ⟨hsr, hmask⟩ := h
  unfold substepOf at *
  constructor
  · rw [tick_cfg]
    refine hsr.tick inp (by omega) (by rw [hcfg]; omega) ?_
    rw [hin.shiftWidth_data (by omega), hcfg, ← Nat.mul_succ]
    split
    · congr 1; omega
    · congr 1; omega
  · rw [tick_cfg]
    by_cases heven : (j - dataStart s.cfg) % 2 = 0
    · have hsub : IsSubstep t.cfg t.c := by rw [hcfg, hcount]; exact ⟨by omega, hhi, heven⟩
      rw [tick_rwdsO_of_substep t inp hsub, if_pos hwe, hcfg, hcount]
      congr 1; omega
    · have hsub : ¬ IsSubstep t.cfg t.c := by
        rw [hcfg, hcount]
        rintro ⟨-, -, heven'⟩
        exact heven heven'
      rw [tick_rwdsO_of_not_substep t inp hsub, hmask]
      congr 1; omega

/-- In the data phase of a held WRITE the payload goes out from the top, `W` bits every two cycles, each with the
mask of its sub-step (R106 to R109). -/
theorem write_data {s : State} {r : Request} (htrig : TriggerCycle s) (hrst : NoReset s (timelineEnd s.cfg))
    (hheld : HoldsRequest s (timelineEnd s.cfg) r) (hwe : r.we = true) :
    ∀ j, j ≤ timelineEnd s.cfg → ∃ t, ReachesIn j s t ∧ InTransaction s j t ∧
      (dataStart s.cfg + 1 ≤ j → j ≤ teardownAt s.cfg → CarriesPayload r (substepOf s.cfg j) t) := by
  refine transaction_induct (fun j t => dataStart s.cfg + 1 ≤ j → j ≤ teardownAt s.cfg →
    CarriesPayload r (substepOf s.cfg j) t) htrig hrst (Nat.le_succ _) (by omega) ?_
  intro j t hj hin hcount hdata hlo hhi
  obtain rfl : (s.inputAt j).req = r := hheld j hj
  by_cases hload : j = dataStart s.cfg
  · have hzero : substepOf s.cfg (j + 1) = 0 := by unfold substepOf; omega
    rw [hzero]
    exact carriesPayload_of_load (by rw [hin.cfg, hcount, hload]) hwe
  · exact (hdata (by omega) (by omega)).tick hin hcount (by omega) hhi hwe

/-- The DQ lines in data mode: the top `W` bits of `sr` (R94). -/
def dataLines (w : Width) (sr : CaWord) : DqLines :=
  match w with
  | .w8 => 0#8 ++ sr.extractLsb' 40 8
  | .w16 => sr.extractLsb' 32 16

theorem dqO_of_data {s : State} (h : ¬ s.caActive = true) : dqO s = dataLines s.cfg.width s.sr := if_neg h

/-- The pins of a held WRITE in either cycle `e` of sub-step `k`. -/
theorem write_pins {s : State} {r : Request} (htrig : TriggerCycle s) (hrst : NoReset s (timelineEnd s.cfg))
    (hheld : HoldsRequest s (timelineEnd s.cfg) r) (hwe : r.we = true) (k e : Nat) (he : e < 2)
    (hk : 2 * k < dataLen s.cfg.width) :
    ∃ t, ReachesIn (dataStart s.cfg + 1 + 2 * k + e) s t ∧ (pins t).csN.head? = some false ∧
      (∃ sr, ShiftedUp (widthBits s.cfg.width * k) (payloadWord r.datW) sr ∧
        (pins t).dq = some (dataLines s.cfg.width sr)) ∧
      (pins t).rwds = some (substepMask s.cfg.width r.sel k) := by
  have hord := offsets_order s.cfg
  have hT := teardownAt_eq s.cfg
  have heven : dataLen s.cfg.width % 2 = 0 := by cases s.cfg.width <;> rfl
  obtain ⟨t, ht, hin, hdata⟩ := write_data htrig hrst hheld hwe (dataStart s.cfg + 1 + 2 * k + e) (by omega)
  have hstep : substepOf s.cfg (dataStart s.cfg + 1 + 2 * k + e) = k := by unfold substepOf; omega
  obtain ⟨hsr, hmask⟩ := hdata (by omega) (by omega)
  rw [hstep, hin.cfg] at hsr hmask
  have hwe' : (s.inputAt (dataStart s.cfg)).req.we = true := by rw [hheld _ (by omega), hwe]
  have hcs : t.cs = true := (hin.cs (by omega)).mpr (by omega)
  have hdq : t.dqOe = true := (hin.dqOe (by omega)).mpr (.inr ⟨hwe', by omega, by omega⟩)
  have hrwds : t.rwdsOe = true := (hin.rwdsOe (by omega)).mpr ⟨hwe', by omega⟩
  have hca : ¬ t.caActive = true := fun hca => by have := (hin.caActive (by omega)).mp hca; omega
  refine ⟨t, ht, by rw [csPins_head, hcs]; rfl, ⟨t.sr, hsr, ?_⟩, by rw [rwdsPins_driven hrwds, hmask]⟩
  rw [dqPins_driven hdq, dqO_of_data hca, hin.cfg]

/-- The acknowledge cycle of any transaction: `ack` is 1 and the device and both groups of lines are released. -/
theorem ack_pins {s : State} (htrig : TriggerCycle s) (hrst : NoReset s (timelineEnd s.cfg)) :
    ∃ t, ReachesIn (timelineEnd s.cfg - 1) s t ∧ (pins t).ack = true ∧ (pins t).csN.head? = some true ∧
      (pins t).dq = none ∧ (pins t).rwds = none := by
  have hord := offsets_order s.cfg
  obtain ⟨t, ht, hin⟩ := transaction_reaches htrig hrst (Nat.le_succ _) (timelineEnd s.cfg - 1) (by omega)
  have hcs := hin.cs (by omega)
  have hdq := hin.dqOe (by omega)
  have hrwds := hin.rwdsOe (by omega)
  have hcs' : t.cs = false := by grind
  have hdq' : t.dqOe = false := by grind
  have hrwds' : t.rwdsOe = false := by grind
  exact ⟨t, ht, hin.ack (by omega), by rw [csPins_head, hcs']; rfl, dqPins_released hdq',
    rwdsPins_released hrwds'⟩

/-- The payload stands above 16 zero bits. -/
theorem payloadWord_extract (d : BusWord) (start len : Nat) :
    (payloadWord d).extractLsb' (start + 16) len = d.extractLsb' start len :=
  (BitVec.extractLsb'_append_eq_of_le (Nat.le_add_left 16 start)).trans (by rw [Nat.add_sub_cancel])

/-- Settles O48: the top byte after `k` shifts is byte `k` of the payload. -/
theorem writeDrivesTheBytesW8 : Obligations.WriteDrivesTheBytesW8 := by
  intro s adr d sel hc hphase hw hrst hheld
  have htrig := hheld.triggerCycle hc hphase rfl
  refine ⟨fun k e he => ?_, ack_pins htrig hrst⟩
  obtain ⟨t, ht, hcs, ⟨sr, hsr, hdq⟩, hrwds⟩ := write_pins htrig hrst hheld rfl k.val e he
    (by rw [hw]; show 2 * k.val < 8; omega)
  rw [hw] at hsr hdq hrwds
  refine ⟨t, ht, hcs, hdq.trans ?_, hrwds⟩
  have hbyte := hsr.extract (24 - 8 * k.val + 16) 8 (by show 24 - 8 * k.val + 16 + 8 * k.val + 8 ≤ 48; omega)
  have hplace : 24 - 8 * k.val + 16 + widthBits .w8 * k.val = 40 := by
    show 24 - 8 * k.val + 16 + 8 * k.val = 40; omega
  rw [hplace, payloadWord_extract] at hbyte
  rw [dataLines, hbyte]
  rfl

/-- Settles O49: the top 16 bits after `k` shifts are half `k` of the payload. -/
theorem writeDrivesTheHalvesW16 : Obligations.WriteDrivesTheHalvesW16 := by
  intro s adr d sel hc hphase hw hrst hheld
  have htrig := hheld.triggerCycle hc hphase rfl
  refine ⟨fun k e he => ?_, ack_pins htrig hrst⟩
  obtain ⟨t, ht, hcs, ⟨sr, hsr, hdq⟩, hrwds⟩ := write_pins htrig hrst hheld rfl k.val e he
    (by rw [hw]; show 2 * k.val < 4; omega)
  rw [hw] at hsr hdq hrwds
  refine ⟨t, ht, hcs, hdq.trans ?_, hrwds⟩
  have hhalf := hsr.extract (16 - 16 * k.val + 16) 16
    (by show 16 - 16 * k.val + 16 + 16 * k.val + 16 ≤ 48; omega)
  have hplace : 16 - 16 * k.val + 16 + widthBits .w16 * k.val = 32 := by
    show 16 - 16 * k.val + 16 + 16 * k.val = 32; omega
  rw [hplace, payloadWord_extract] at hhalf
  rw [dataLines, hhalf]

/-! ### The data of a READ -/

/-- The beats of the data phase as one number, the earliest on top: beat `i` is on the DQ lines in cycle
`T + S + 3 + 2i`, and `W` bits of it count. -/
def sampledBeats (s : State) : Nat → Nat
  | 0 => 0
  | n + 1 => sampledBeats s n * 2 ^ widthBits s.cfg.width +
      (s.inputAt (dataStart s.cfg + 3 + 2 * n)).dqIn.toNat % 2 ^ widthBits s.cfg.width

/-- A shift appends `w` bits below the low `n` bits that are followed. -/
theorem shift_low_bits (a d w n m : Nat) (hm : n + w ≤ m) :
    ((a * 2 ^ w + d % 2 ^ w) % 2 ^ m) % 2 ^ (n + w) = a % 2 ^ n * 2 ^ w + d % 2 ^ w := by
  have hpos : 0 < 2 ^ w := Nat.two_pow_pos w
  rw [Nat.mod_mod_of_dvd _ (Nat.pow_dvd_pow 2 hm), Nat.add_comm n w, pow_add, Nat.mod_mul,
    Nat.mul_add_mod_self_right, Nat.mod_mod, Nat.mul_comm a, Nat.mul_add_div hpos,
    Nat.div_eq_of_lt (Nat.mod_lt _ hpos), Nat.add_zero]
  ring

/-- The number of beats shifted in before the cycle `j` cycles after the trigger: the first is shifted in cycle
`T + S + 4`, and one in every second cycle after it. -/
def beatsBefore (cfg : Config) (j : Nat) : Nat := (j - dataStart cfg - 3) / 2

/-- The low bits of `sr` are the first `n` beats. -/
def HoldsBeats (s : State) (n : Nat) (t : State) : Prop :=
  t.sr.toNat % 2 ^ (widthBits s.cfg.width * n) = sampledBeats s n

/-- The beats of the data phase fit into `sr`. -/
theorem beats_fit (w : Width) {n : Nat} (h : n + 1 ≤ dataLen w / 2) : widthBits w * n + widthBits w ≤ 48 := by
  have hmul := Nat.mul_le_mul_left (widthBits w) h
  rw [Nat.mul_succ] at hmul
  refine hmul.trans ?_
  cases w <;> decide

/-- A shift brings in the sample of the cycle before it, which is the next beat. -/
theorem HoldsBeats.tick {s t : State} {inp : Inputs} {j : Nat} (hin : InTransaction s j t) (hcount : t.c = j)
    (hlo : dataStart s.cfg + 3 ≤ j) (hhi : j < teardownAt s.cfg + 3)
    (hdqi : t.dqi = sampleDq s.cfg.width (s.inputAt (j - 1)).dqIn)
    (h : HoldsBeats s (beatsBefore s.cfg j) t) : HoldsBeats s (beatsBefore s.cfg (j + 1)) (tick t inp) := by
  have hord := offsets_order s.cfg
  have hT := teardownAt_eq s.cfg
  have hphase := hin.phase
  have hshift := tick_shiftsSr t inp (by omega) (fun hd => by rw [hin.cfg] at hd; omega)
  unfold ShiftsSr at hshift
  unfold HoldsBeats at *
  by_cases heven : t.phase.toNat % 2 = 0
  · have hnext : beatsBefore s.cfg (j + 1) = beatsBefore s.cfg j + 1 := by unfold beatsBefore; omega
    have hbeat : dataStart s.cfg + 3 + 2 * beatsBefore s.cfg j = j - 1 := by unfold beatsBefore; omega
    have hfit := beats_fit s.cfg.width (n := beatsBefore s.cfg j) (by unfold beatsBefore; omega)
    rw [hshift, if_pos heven, hin.shiftWidth_data (by omega), hnext, Nat.mul_succ,
      shift_low_bits _ _ _ _ _ hfit, h, hdqi, sampleDq_toNat, Nat.mod_mod, sampledBeats, hbeat]
  · have hsame : beatsBefore s.cfg (j + 1) = beatsBefore s.cfg j := by unfold beatsBefore; omega
    rw [hshift, if_neg heven, hsame, h]

/-- From cycle `T + S + 3` on the shifts bring the beats in, whatever was in `sr` before. -/
theorem transaction_beats {s : State} (htrig : TriggerCycle s) (hrst : NoReset s (timelineEnd s.cfg)) :
    ∀ j, j ≤ timelineEnd s.cfg → ∃ t, ReachesIn j s t ∧ InTransaction s j t ∧
      (1 ≤ j → t.dqi = sampleDq s.cfg.width (s.inputAt (j - 1)).dqIn) ∧
      (dataStart s.cfg + 3 ≤ j → j ≤ teardownAt s.cfg + 3 → HoldsBeats s (beatsBefore s.cfg j) t) := by
  refine transaction_induct (fun j t => (1 ≤ j → t.dqi = sampleDq s.cfg.width (s.inputAt (j - 1)).dqIn) ∧
    (dataStart s.cfg + 3 ≤ j → j ≤ teardownAt s.cfg + 3 → HoldsBeats s (beatsBefore s.cfg j) t)) htrig hrst
    (Nat.le_succ _) ⟨by omega, by omega⟩ ?_
  rintro j t hj hin hcount ⟨hdqi, hbeats⟩
  refine ⟨fun _ => by rw [tick_dqi, hin.cfg, Nat.add_sub_cancel], fun hlo hhi => ?_⟩
  by_cases hfirst : j = dataStart s.cfg + 2
  · have hzero : beatsBefore s.cfg (j + 1) = 0 := by unfold beatsBefore; omega
    rw [hzero, HoldsBeats, Nat.mul_zero, pow_zero, Nat.mod_one]
    rfl
  · exact (hbeats (by omega) (by omega)).tick hin hcount (by omega) hhi (hdqi (by omega))

/-- In the acknowledge cycle `dat_r` is the four or two beats of the data phase. -/
theorem ack_datR {s : State} (htrig : TriggerCycle s) (hrst : NoReset s (timelineEnd s.cfg)) :
    ∃ t, ReachesIn (timelineEnd s.cfg - 1) s t ∧ (pins t).ack = true ∧
      (pins t).datR.toNat = sampledBeats s (dataLen s.cfg.width / 2) := by
  have hord := offsets_order s.cfg
  have hT := teardownAt_eq s.cfg
  obtain ⟨t, ht, hin, -, hbeats⟩ := transaction_beats htrig hrst (timelineEnd s.cfg - 1) (by omega)
  have hcount : beatsBefore s.cfg (timelineEnd s.cfg - 1) = dataLen s.cfg.width / 2 := by
    unfold beatsBefore; omega
  have hbits : widthBits s.cfg.width * (dataLen s.cfg.width / 2) = 32 := by cases s.cfg.width <;> rfl
  have hdatR := hbeats (by omega) (by omega)
  rw [hcount, HoldsBeats, hbits] at hdatR
  exact ⟨t, ht, hin.ack (by omega), (BitVec.extractLsb'_toNat 0 32 t.sr).trans hdatR⟩

/-- Four bytes as one number. -/
theorem toNat_concat_bytes (a b c e : BitVec 8) :
    (a ++ b ++ c ++ e : BusWord).toNat =
      ((a.toNat * 2 ^ 8 + b.toNat) * 2 ^ 8 + c.toNat) * 2 ^ 8 + e.toNat := by
  refine (toNat_concat (a ++ b ++ c) e).trans ?_
  rw [toNat_concat, toNat_concat]

/-- Settles O47: the number of the beats is their concatenation. -/
theorem readReturnsTheSampledBeats : Obligations.ReadReturnsTheSampledBeats := by
  intro s adr d sel hc hphase hrst hheld S dq
  obtain ⟨t, ht, hack, hdatR⟩ := ack_datR (hheld.triggerCycle hc hphase rfl) hrst
  refine ⟨t, ht, hack, BitVec.eq_of_toNat_eq ?_⟩
  rw [hdatR]
  cases hw : s.cfg.width with
  | w8 =>
    refine Eq.trans ?_ (toNat_concat_bytes _ _ _ _).symm
    simp only [sampledBeats, hw, dataLen, widthBits, BitVec.extractLsb'_toNat, Nat.shiftRight_zero,
      Nat.reduceDiv, Nat.zero_mul, Nat.zero_add, Nat.mul_zero, Nat.add_zero, Nat.reduceMul, Nat.add_assoc,
      Nat.reduceAdd]
    rfl
  | w16 =>
    refine Eq.trans ?_ (toNat_concat (dq (S + 3)) (dq (S + 5))).symm
    simp only [sampledBeats, hw, dataLen, widthBits, Nat.mod_eq_of_lt (BitVec.isLt _), Nat.reduceDiv,
      Nat.zero_mul, Nat.zero_add, Nat.mul_zero, Nat.add_zero, Nat.reduceMul, Nat.add_assoc, Nat.reduceAdd]
    rfl

/-! ## The wire as the device sees it -/

theorem pinsAt_of_reachesIn {s t : State} {k : Nat} (h : ReachesIn k s t) : pinsAt s k = some (pins t) := by
  have hrun : Host.Core.run Sys2Proof.core k s = .next t := h
  rw [pinsAt, hrun]

theorem wireDq_of_reachesIn {s t : State} {k : Nat} (h : ReachesIn k s t) : wireDq s k = (pins t).dq := by
  rw [wireDq, pinsAt_of_reachesIn h]; rfl

theorem wireRwds_of_reachesIn {s t : State} {k : Nat} (h : ReachesIn k s t) : wireRwds s k = (pins t).rwds := by
  rw [wireRwds, pinsAt_of_reachesIn h]; rfl

theorem wireLow_caByte {s : State} (htrig : TriggerCycle s) (hrst : NoReset s 16) (k : Nat) (hk : k < 6) :
    wireLow s (4 + 2 * k) = caByte (issuedWord s) k := by
  obtain ⟨t, ht, -, hdq⟩ := caBytesOnTheWire s htrig hrst k hk 0 (by decide)
  have ht' : ReachesIn (4 + 2 * k) s t := ht
  rw [wireLow, wireDq_of_reachesIn ht', hdq]
  exact BitVec.extractLsb'_append_eq_right

theorem concat_caBytes (x : CaWord) :
    caByte x 0 ++ caByte x 1 ++ caByte x 2 ++ caByte x 3 ++ caByte x 4 ++ caByte x 5 = x := by
  have hlt := x.isLt
  apply BitVec.eq_of_toNat_eq
  refine (toNat_concat (caByte x 0 ++ caByte x 1 ++ caByte x 2 ++ caByte x 3 ++ caByte x 4) (caByte x 5)).trans ?_
  simp only [toNat_concat, caByte, BitVec.extractLsb'_toNat, Nat.shiftRight_eq_div_pow]
  omega

/-- R44: the device reads the CA word that was issued. -/
theorem wireCa_eq {s : State} (htrig : TriggerCycle s) (hrst : NoReset s 16) : wireCa s = issuedWord s := by
  have hbyte := wireLow_caByte htrig hrst
  rw [wireCa, hbyte 0 (by decide), hbyte 1 (by decide), hbyte 2 (by decide), hbyte 3 (by decide),
    hbyte 4 (by decide), hbyte 5 (by decide), concat_caBytes]

/-- The address a CA word names does not depend on its direction. -/
theorem caAddress_caWord (w : Width) (adr : BusAddr) (we : Bool) :
    caAddress (caWord w adr we) = caAddress (caWord w adr true) := by
  have hlayout : ∀ r a b, caAddress (caBitsW16 r a b) = caAddress (caBitsW16 false a b) := by
    intro r a b
    apply BitVec.eq_of_toNat_eq
    simp only [caAddress, BitVec.extractLsb'_toNat, Nat.shiftRight_zero, caBitsW16_toNat]
    cases r with
    | false => rfl
    | true => rw [Bool.toNat_true, Bool.toNat_false]; omega
  cases w with
  | w8 => rw [caWord_w8, caWord_w8, hlayout, Bool.not_true]
  | w16 => rw [caWord_w16, caWord_w16, hlayout, Bool.not_true]

/-- A slice of a slice. -/
theorem extractLsb'_extractLsb' {w : Nat} (x : BitVec w) {m n start len : Nat} (h : start + len ≤ n) :
    (x.extractLsb' m n).extractLsb' start len = x.extractLsb' (m + start) len := by
  apply BitVec.eq_of_getLsbD_eq
  intro i hi
  rw [BitVec.getLsbD_extractLsb', BitVec.getLsbD_extractLsb', BitVec.getLsbD_extractLsb',
    decide_eq_true (by omega : start + i < n), Bool.true_and, Nat.add_assoc]

/-- The device reads the word of the held request. -/
theorem wireCa_of_held {s : State} {r : Request} (hc : s.c = 0) (hphase : s.phase = 1)
    (hrst : NoReset s (timelineEnd s.cfg)) (hheld : HoldsRequest s (timelineEnd s.cfg) r)
    (hr : pending r = true) : wireCa s = caWord s.cfg.width r.adr r.we := by
  have hord := offsets_order s.cfg
  rw [wireCa_eq (hheld.triggerCycle hc hphase hr) (fun j hj => hrst j (by omega)), issuedWord,
    hheld 3 (by omega)]

/-! ### A held WRITE -/

theorem getLsbD_pair (a b : Bool) (n : Nat) :
    (BitVec.ofBool a ++ BitVec.ofBool b).getLsbD (1 - n % 2) = if n % 2 = 0 then a else b := by
  rcases Nat.mod_two_eq_zero_or_one n with h | h <;> rw [h] <;> cases a <;> cases b <;> rfl


/-- R45, R46, R34: each byte of a held WRITE is on its lane of the wire, masked if its select bit is 0. -/
theorem write_wire {s : State} {adr : BusAddr} {d : BusWord} {sel : SelMask} (hc : s.c = 0) (hphase : s.phase = 1)
    (hrst : NoReset s (timelineEnd s.cfg))
    (hheld : HoldsRequest s (timelineEnd s.cfg) ⟨true, true, true, adr, d, sel⟩) (k : Fin 4) :
    wireByte s k = wordByte d k ∧ wireMasked s k = !sel.getLsbD k.val := by
  unfold wireByte wireMasked beatAt beatLane
  cases hw : s.cfg.width with
  | w8 =>
    obtain ⟨hbeats, -⟩ := writeDrivesTheBytesW8 s adr d sel hc hphase hw hrst hheld
    obtain ⟨t, ht, -, hdq, hrwds⟩ := hbeats k 0 (by decide)
    have ht' : ReachesIn (dataStart s.cfg + 1 + 2 * k.val) s t := ht
    simp only [wireDq_of_reachesIn ht', wireRwds_of_reachesIn ht', hdq, hrwds]
    refine ⟨BitVec.extractLsb'_append_eq_right, ?_⟩
    cases sel.getLsbD k.val <;> rfl
  | w16 =>
    obtain ⟨hbeats, -⟩ := writeDrivesTheHalvesW16 s adr d sel hc hphase hw hrst hheld
    obtain ⟨t, ht, -, hdq, hrwds⟩ := hbeats ⟨k.val / 2, by omega⟩ 0 (by decide)
    have ht' : ReachesIn (dataStart s.cfg + 1 + 2 * (k.val / 2)) s t := ht
    simp only [wireDq_of_reachesIn ht', wireRwds_of_reachesIn ht', hdq, hrwds]
    constructor
    · have hinside : 8 * (1 - k.val % 2) + 8 ≤ 16 := by omega
      refine (extractLsb'_extractLsb' d hinside).trans ?_
      have hplace : 16 - 16 * (k.val / 2) + 8 * (1 - k.val % 2) = 24 - 8 * k.val := by omega
      rw [hplace]
      rfl
    · show (BitVec.ofBool (!sel.getLsbD (2 * (k.val / 2))) ++
        BitVec.ofBool (!sel.getLsbD (2 * (k.val / 2) + 1))).getLsbD (1 - k.val % 2) = _
      rw [getLsbD_pair]
      split
      · congr 2; omega
      · congr 2; omega

/-- R54: what a compliant device has stored after a held WRITE. -/
theorem deviceStores_write {s : State} {adr : BusAddr} {d : BusWord} {sel : SelMask} {before after : DeviceMem}
    (hc : s.c = 0) (hphase : s.phase = 1) (hrst : NoReset s (timelineEnd s.cfg))
    (hheld : HoldsRequest s (timelineEnd s.cfg) ⟨true, true, true, adr, d, sel⟩)
    (hdevice : DeviceStores s before after) (k : Fin 4) :
    after (caAddress (caWord s.cfg.width adr true)) k =
      if sel.getLsbD k.val then wordByte d k else before (caAddress (caWord s.cfg.width adr true)) k := by
  have hword := wireCa_of_held hc hphase hrst hheld rfl
  obtain ⟨hread, -⟩ := caWordConstantBits s.cfg.width adr true
  obtain ⟨hbyte, hmask⟩ := write_wire hc hphase hrst hheld k
  have hstored := hdevice (by rw [hword]; exact hread) k
  rw [hword, hbyte, hmask] at hstored
  rw [hstored]
  cases sel.getLsbD k.val <;> rfl

/-! ### A held READ -/

/-- The bytes of a word that is four bytes. -/
theorem wordByte_concat_bytes (a b c e : BitVec 8) (k : Fin 4) :
    wordByte (a ++ b ++ c ++ e) k = ![a, b, c, e] k := by
  have ha := a.isLt
  have hb := b.isLt
  have hc := c.isLt
  have he := e.isLt
  apply BitVec.eq_of_toNat_eq
  refine (BitVec.extractLsb'_toNat _ 8 _).trans ?_
  rw [toNat_concat_bytes, Nat.shiftRight_eq_div_pow]
  match k with
  | 0 => show _ / 2 ^ 24 % 2 ^ 8 = a.toNat; omega
  | 1 => show _ / 2 ^ 16 % 2 ^ 8 = b.toNat; omega
  | 2 => show _ / 2 ^ 8 % 2 ^ 8 = c.toNat; omega
  | 3 => show _ / 2 ^ 0 % 2 ^ 8 = e.toNat; omega

/-- The bytes of a word that is two halves. -/
theorem wordByte_concat_halves (a b : BitVec 16) (k : Fin 4) :
    wordByte (a ++ b) k = (if k.val / 2 = 0 then a else b).extractLsb' (8 * (1 - k.val % 2)) 8 := by
  unfold wordByte
  split
  next hk =>
    have hplace : 24 - 8 * k.val = 16 + 8 * (1 - k.val % 2) := by omega
    rw [hplace]
    exact (BitVec.extractLsb'_append_eq_of_le (Nat.le_add_right 16 _)).trans (by rw [Nat.add_sub_cancel_left])
  next hk =>
    have hplace : 24 - 8 * k.val = 8 * (1 - k.val % 2) := by omega
    rw [hplace]
    exact BitVec.extractLsb'_append_eq_of_add_le (by omega)

/-- R120, R48: byte `k` of `dat_r` is the sample of wire byte `k`. -/
theorem read_samples {s : State} {adr : BusAddr} {d : BusWord} {sel : SelMask} (hc : s.c = 0) (hphase : s.phase = 1)
    (hrst : NoReset s (timelineEnd s.cfg))
    (hheld : HoldsRequest s (timelineEnd s.cfg) ⟨true, true, false, adr, d, sel⟩) :
    ∃ t, ReachesIn (timelineEnd s.cfg - 1) s t ∧ (pins t).ack = true ∧
      ∀ k, wordByte (pins t).datR k = sampledByte s k := by
  obtain ⟨t, ht, hack, hdatR⟩ := readReturnsTheSampledBeats s adr d sel hc hphase hrst hheld
  refine ⟨t, ht, hack, fun k => ?_⟩
  rw [hdatR]
  unfold sampledByte beatAt beatLane
  cases hw : s.cfg.width with
  | w8 =>
    refine (wordByte_concat_bytes _ _ _ _ k).trans ?_
    match k with
    | 0 => rfl
    | 1 => rfl
    | 2 => rfl
    | 3 => rfl
  | w16 =>
    refine (wordByte_concat_halves _ _ k).trans ?_
    match k with
    | 0 => rfl
    | 1 => rfl
    | 2 => rfl
    | 3 => rfl

/-- Settles O53: the two transactions name the same location, the device stored there what the wire carried, and
the read samples what the device answers. -/
theorem readAfterWriteUnderTheDeviceContract : Obligations.ReadAfterWriteUnderTheDeviceContract := by
  intro s s' adr d d' sel sel' before after hcfg hc hphase hc' hphase' hrst hheld hrst' hheld' hstores hanswers
  rw [← hcfg] at hrst' hheld'
  obtain ⟨t, ht, hack, hsamples⟩ := read_samples hc' hphase' hrst' hheld'
  rw [hcfg] at ht
  refine ⟨t, ht, hack, fun k => ?_⟩
  have hword := wireCa_of_held hc' hphase' hrst' hheld' rfl
  obtain ⟨hread, -⟩ := caWordConstantBits s'.cfg.width adr false
  have hanswer := hanswers (by rw [hword]; exact hread) k
  rw [hsamples k, hanswer, hword, caAddress_caWord, hcfg]
  exact deviceStores_write hc hphase hrst hheld hstores k

end Sys2Proof.Machine
end
